-- ==== Sys2Proof/Word.lean ====
section
/-! DEFINITION. The words of the links: bytes, and the 32-bit sensor identity. -/

namespace Sys2Proof

/-- One byte of a frame on either link (8 data bits, 10_planner_link.md, Pins and line settings). -/
abbrev Byte := BitVec 8

/-- A sensor's 32-bit identifier; valid ones are 1 to 0xFFFFFFFE (00_scope.md, Terms). -/
abbrev Identity := BitVec 32

end Sys2Proof
end

