-- ==== Sys2Proof/Config.lean ====
section
/-! DEFINITION. The sizes, limits and defaults the manual fixes for the part. The manual leaves no value open that the
part goes on with, so there is no free value here (INVENTORY.md, What the manual leaves open). -/

namespace Sys2Proof.Config

/-- Slots of the Bin Table (R1). -/
def slots : Nat := 4096
/-- Places of the Intake Queue (R41). -/
def intakePlaces : Nat := 64
/-- Places of the Answer Queue (R43). -/
def answerPlaces : Nat := 16
/-- Places of the Stranger List (R107). -/
def strangerPlaces : Nat := 32
/-- Slots of the Report Pool (R126). -/
def poolSlots : Nat := 256
/-- Most copies one channel queue holds (R127). -/
def queuePlaces : Nat := 64
/-- Places of the Command Queue (R164). -/
def commandPlaces : Nat := 4
/-- Largest uptime, time and 32-bit count (R156, R44). -/
def max32 : Nat := 4294967295
/-- Largest 16-bit count and credit (R6, R133). -/
def max16 : Nat := 65535
/-- Hours to threshold of a record without a projection (R73). -/
def noProjection : Nat := 65535
/-- Oscillations of the crystal in one second (R156). -/
def oscillations : Nat := 32768
/-- Reset value of the capture limit, in bytes (R47). -/
def captureLimit : Nat := 32
/-- Reset value of the hold threshold, in captures (R47). -/
def holdThreshold : Nat := 48
/-- Reset value of the soon horizon, in seconds (R85). -/
def soonHorizon : Nat := 43200
/-- Reset value of the stranger age, in seconds (R118). -/
def strangerAge : Nat := 86400

end Sys2Proof.Config
end

