-- ==== Sys2Proof/Machine/Frame.lean ====
section
/-! DEFINITION. Bytes and frames: big-endian fields, the CRC-16, the frame the part writes (R177) and what a link's
receiver finds in the bytes it sees (R162). -/

namespace Sys2Proof.Machine

/-- The byte of a number, its low eight bits. -/
def byteOf (n : Nat) : Byte := BitVec.ofNat 8 n

/-- A two-byte field, big-endian (R179). -/
def be16 (n : Nat) : List Byte := [byteOf (n / 256), byteOf n]

/-- A four-byte field, big-endian (R179). -/
def be32 (n : Nat) : List Byte := [byteOf (n / 16777216), byteOf (n / 65536), byteOf (n / 256), byteOf n]

/-- The signed byte of a number, two's complement (R178). -/
def signedByte (n : Int) : Byte := BitVec.ofInt 8 n

/-- The byte at an offset of a body, as a number. -/
def byteAt (body : List Byte) (i : Nat) : Nat := (body.getD i 0).toNat

/-- The two-byte field at an offset of a body. -/
def nat16At (body : List Byte) (i : Nat) : Nat := byteAt body i * 256 + byteAt body (i + 1)

/-- The four-byte field at an offset of a body. -/
def nat32At (body : List Byte) (i : Nat) : Nat := nat16At body i * 65536 + nat16At body (i + 2)

/-- One bit of the CRC register: most significant bit first, polynomial 0x1021 (R30). -/
def crcBit (r : BitVec 16) : BitVec 16 := if r.msb then (r <<< 1) ^^^ 0x1021#16 else r <<< 1

/-- Eight bits of one byte through the CRC register. -/
def crcByte (r : BitVec 16) (b : Byte) : BitVec 16 :=
  crcBit (crcBit (crcBit (crcBit (crcBit (crcBit (crcBit (crcBit (r ^^^ (b.zeroExtend 16 <<< 8)))))))))

/-- The CRC-16 of R30: initial value 0xFFFF, no reflection, no final inversion. -/
def crc16 (bytes : List Byte) : BitVec 16 := bytes.foldl crcByte 0xFFFF#16

/-- The lead byte of a frame (R177). -/
def leadByte : Byte := 0xC3#8

/-- The bytes a frame's CRC covers: length, type, tag and body (R177). -/
def coveredBytes (type tag : Byte) (body : List Byte) : List Byte :=
  be16 (body.length + 2) ++ (type :: tag :: body)

/-- A whole frame as the part writes it (R177). -/
def frameBytes (type tag : Byte) (body : List Byte) : List Byte :=
  leadByte :: (coveredBytes type tag body ++ be16 (crc16 (coveredBytes type tag body)).toNat)

/-- Hunting: every byte that is not a lead byte is passed over (R162). -/
def hunt : List Byte → List Byte
  | [] => []
  | b :: bs => if b = leadByte then b :: bs else hunt bs

/-- What a receiver finds first in the bytes it holds and sees, and the bytes it goes on with (R162). -/
inductive Finding
  /-- No frame is finished: hunting when nothing is held, else collecting what is held. -/
  | collecting (held : List Byte)
  /-- A frame whose CRC matches has arrived. -/
  | arrived (type tag : Byte) (body rest : List Byte)
  /-- A collected frame whose CRC fails. -/
  | bad (rest : List Byte)
  /-- A length field outside 2 to 600. -/
  | overlong (rest : List Byte)
deriving DecidableEq, Repr

/-- Judges a collected frame from its length bytes on; `n` is its length field. -/
def judgeCollected (h l : Byte) (more : List Byte) (n : Nat) : Finding :=
  if crc16 (h :: l :: more.take n) = BitVec.ofNat 16 (nat16At (more.drop n) 0) then
    .arrived (more.getD 0 0) (more.getD 1 0) ((more.take n).drop 2) (hunt (more.drop (n + 2)))
  else .bad (hunt (h :: l :: more))

/-- The first finding of a receiver that holds and sees these bytes (R162): after a discard it hunts again from the
byte after the lead byte, after an arrival from the byte after the last CRC byte. -/
def findFrame (bytes : List Byte) : Finding :=
  match hunt bytes with
  | lead :: h :: l :: more =>
    let n := h.toNat * 256 + l.toNat
    if n < 2 ∨ 600 < n then .overlong (hunt (h :: l :: more))
    else if more.length < n + 2 then .collecting (lead :: h :: l :: more)
    else judgeCollected h l more n
  | held => .collecting held

/-- The frame type of a capture on the field link (R177). -/
def captureType : Byte := 0x20#8

/-- The frame type of an answer on the field link (R177). -/
def answerType : Byte := 0x21#8

/-- The frame type of the start notice (R174). -/
def startNoticeType : Byte := 0x4F#8

end Sys2Proof.Machine
end

