-- ==== Sys2Proof/Syntax.lean ====
section
/-! DEFINITION. The commands and events of the part: one constructor per row of spec/opcode_table.json. -/

namespace Sys2Proof

/-- The part's two links (00_scope.md, External connections). -/
inductive Link
  | planner
  | field
deriving DecidableEq, Repr

/-- One row of the table each. A reception row carries the bytes the link's receiver sees (R162). A row that is the
execution of a command has no operand of its own: it acts on the oldest held entry of the Command Queue, which holds
type, tag and body as received (R164, R166). DESIGN CHOICE, safe, log entries 1 and 6. -/
inductive Instr
  -- reception
  | capture (bytes : List Byte)
  | unknownType (bytes : List Byte)
  | framesBad (link : Link) (bytes : List Byte)
  | framesOverlong (link : Link) (bytes : List Byte)
  | commandArrival (bytes : List Byte)
  -- execution of the oldest held command
  | enrol
  | amend
  | retire
  | bar
  | unbar
  | query
  | inject
  | profileSet
  | profileGet
  | list
  | clearAlarms
  | strangers
  | dismiss
  | channelSet
  | credit
  | sweep
  | sweepAbort
  | setTime
  | status
  | config
  | counters
  | restart
  | unknownCommand
  -- the part's own events
  | estimation
  | secondsEvent
  | secondsWalk
  | silenceCheck
  | strangerAging
  | transmissionBegin
  | transmissionCompletion
  | answerTransmissionBegin
  | answerTransmissionCompletion
  | sweepVisit
  | sweepEndPlacement
  -- resets
  | resetNAssertion
  | resetNRelease
  | powerOnReset
deriving DecidableEq, Repr

end Sys2Proof
end

