-- ==== Sys2Proof/WellFormed.lean ====
section
/-! DEFINITION. When a command is well formed: the bytes of a reception row, seen by a hunting receiver, make the event
the row names (R162, R163, R164). The other rows have no operand and are well formed as they stand. -/

namespace Sys2Proof

open Sys2Proof.Machine

/-- The check of a command's operands. -/
def Instr.wellFormed : Instr → Bool
  | .capture bytes =>
    match findFrame bytes with
    | .arrived type _ _ _ => type == captureType
    | _ => false
  | .unknownType bytes =>
    match findFrame bytes with
    | .arrived type _ _ _ => type != captureType
    | _ => false
  | .framesBad _ bytes =>
    match findFrame bytes with
    | .bad _ => true
    | _ => false
  | .framesOverlong _ bytes =>
    match findFrame bytes with
    | .overlong _ => true
    | _ => false
  | .commandArrival bytes =>
    match findFrame bytes with
    | .arrived _ _ _ _ => true
    | _ => false
  | .enrol | .amend | .retire | .bar | .unbar | .query | .inject | .profileSet | .profileGet | .list | .clearAlarms
  | .strangers | .dismiss | .channelSet | .credit | .sweep | .sweepAbort | .setTime | .status | .config | .counters
  | .restart | .unknownCommand | .estimation | .secondsEvent | .secondsWalk | .silenceCheck | .strangerAging
  | .transmissionBegin | .transmissionCompletion | .answerTransmissionBegin | .answerTransmissionCompletion
  | .sweepVisit | .sweepEndPlacement | .resetNAssertion | .resetNRelease | .powerOnReset => true

end Sys2Proof
end

