-- ==== Sys2Proof/Decode.lean ====
section
/-! DEFINITION. The command a table word spells. The part is a block: its table gives no row any bits, so no word spells
a command (log entry 20). Frames are read by Sys2Proof/Machine/Frame.lean and Sys2Proof/Machine/Operands.lean. -/

namespace Sys2Proof

/-- No row of spec/opcode_table.json has bits, so every word is rejected (log entry 20). -/
def decodeTableWord (_nbits _w : Nat) : Option Instr := none

end Sys2Proof
end

