-- ==== Sys2Proof/Machine/Types.lean ====
section
/-! DEFINITION. The things the part keeps and sends: records, profiles, captures, answers, reports, replies, channels,
the sweep, the clock and the link's queues, in the manual's own terms. -/

namespace Sys2Proof.Machine

/-! ## Names and codes -/

/-- The four conditions (R97), also the names of the four alarms. -/
inductive Alarm | lid | tilt | overfull | lapse
deriving DecidableEq, Repr

/-- A set of the four conditions: the conditions, the latches, an alarm mask (R97, R98). -/
structure AlarmSet where
  lid : Bool := false
  tilt : Bool := false
  overfull : Bool := false
  lapse : Bool := false
deriving DecidableEq, Repr

/-- Whether the bin's field captures receive answers (R5). -/
inductive AckMode | unanswered | answered
deriving DecidableEq, Repr

/-- A record's standing (R4). -/
inductive Standing | enrolled | active | silent | barred
deriving DecidableEq, Repr

/-- A bin's urgency class (R74). -/
inductive Band | none | later | soon | due
deriving DecidableEq, Repr

/-- Where a capture comes from (R27, R28). -/
inductive Source | field | relayed
deriving DecidableEq, Repr

/-- The verdict of a failed check (R29). -/
inductive Malformed | long | short | check | kind
deriving DecidableEq, Repr

/-- The verdict of an answer (R42). -/
inductive Verdict | accept | hold | refuse
deriving DecidableEq, Repr

/-- A reply's status (R167). -/
inductive Status
  | ok | clamped | unknownCommand | badLength | range | noSuchBin | alreadyExists | tableFull | busy | channelOff
  | persisting | notRunning
deriving DecidableEq, Repr

/-- Report kinds a channel subscribes to (R119). -/
inductive ChannelKind | fill | malformed | soon | emptied | stranger | due | alarm
deriving DecidableEq, Repr

/-- A report's priority (R119). -/
inductive Priority | low | normal | high
deriving DecidableEq, Repr

/-- How the arbiter chooses a channel (R135). -/
inductive Arbitration | rotate | ranked
deriving DecidableEq, Repr

/-- The cause of a reset (R174). -/
inductive ResetCause | powerOn | line | command
deriving DecidableEq, Repr

/-- The state of the Sweep Unit (R144). -/
inductive SweepState | idle | running | waiting | closing
deriving DecidableEq, Repr

/-- Which occupied slots a sweep sends (R146). -/
inductive Selection | all | owed | band
deriving DecidableEq, Repr

/-- The reason a SWEEP_END carries (R150). -/
inductive PendingEnd | complete | aborted
deriving DecidableEq, Repr

/-- How the last sweep ended (R144). -/
inductive EndReason | none | complete | aborted | channelOff | reset
deriving DecidableEq, Repr

/-! ## Bin Table and profiles -/

/-- The record held in an occupied slot (01_the_bin_table.md, section 2). Times are uptimes. -/
structure BinRecord where
  identity : Identity
  standing : Standing
  profile : Fin 16
  district : Fin 32
  ackMode : AckMode
  /-- The next sequence number expected; none is UNSET (R6). -/
  expectation : Option (BitVec 4)
  /-- Recent raw fills, newest first (R7). -/
  window : List Nat
  fill : Option Nat
  rate : Nat
  rateValid : Bool
  lastReading : Option Nat
  lastHeard : Nat
  hours : Nat
  due : Option Nat
  band : Band
  projected : Bool
  lastReported : Option Nat
  battery : Option Nat
  lastRssi : Option Int
  lastAntenna : Option Nat
  conditions : AlarmSet
  latches : AlarmSet
  rebasePending : Bool
  /-- Bit c: channel c is owed a report about the bin (R11). -/
  owed : BitVec 8
  deadline : Nat
  estimated : Nat
  missed : Nat
  duplicates : Nat
  emptied : Nat
  lastEmptied : Option Nat
  enrolTime : Nat
deriving DecidableEq, Repr

/-- The nine parameters of a profile, with their defaults (R49). -/
structure Profile where
  emptyDepth : Nat := 1500
  fullDepth : Nat := 200
  threshold : Nat := 800
  fillWeight : Nat := 8
  rateWeight : Nat := 4
  median : Bool := false
  emptiedDrop : Nat := 300
  reportStep : Nat := 50
  silenceLimit : Nat := 1440
deriving DecidableEq, Repr

/-! ## Captures -/

/-- What a good sensor frame says: a join, or a reading with its distance in millimetres, lid-open and tilt indications
and battery byte (R30). -/
inductive Content
  | join
  | reading (distance : Nat) (lid tilt : Bool) (battery : Nat)
deriving DecidableEq, Repr

/-- A sensor frame that passed the six checks (R29). -/
structure GoodFrame where
  identity : Identity
  seq : BitVec 4
  content : Content
deriving DecidableEq, Repr

/-- A received sensor frame together with its receive metadata (00_scope.md, Terms). -/
structure Capture where
  source : Source
  /-- Arrival time, if the capture is admitted (R27, R28). -/
  arrival : Nat
  /-- RSSI and antenna after clamping; absent for a field body of fewer than two bytes (R27). -/
  heard : Option (Int × Nat)
  frame : List Byte
deriving DecidableEq, Repr

/-- The verdict of the six checks (R29). -/
inductive Checked
  | failed (why : Malformed)
  | good (frame : GoodFrame)
deriving DecidableEq, Repr

/-- The class the sequence window gives a capture (R35). -/
inductive WindowClass
  | admissible (gap : Nat)
  | duplicate
  | stale
deriving DecidableEq, Repr

/-- What became of a capture; the INJECT reply's outcome (R28, R179), and overrun, which only a field capture can be. -/
inductive CaptureOutcome
  | accepted | duplicate | stale | held | refused | stranger
  | malformed (why : Malformed)
  | overrun
deriving DecidableEq, Repr

/-- An entry of the Intake Queue (R40). -/
structure IntakeEntry where
  slot : Nat
  content : Content
  rssi : Int
  antenna : Nat
  arrival : Nat
deriving DecidableEq, Repr

/-- An answer to the modem (R42). -/
structure Answer where
  identity : Identity
  seq : BitVec 4
  verdict : Verdict
deriving DecidableEq, Repr

/-- The field link transmitter (R43), with the frame it is sending (R177). -/
inductive FieldTransmitter
  | idle
  | sending (answer : Answer) (frame : List Byte)
deriving DecidableEq, Repr

/-- The nineteen intake counters, in the order of R44. -/
structure IntakeCounters where
  capturesField : Nat := 0
  capturesRelayed : Nat := 0
  accepted : Nat := 0
  joins : Nat := 0
  duplicates : Nat := 0
  stale : Nat := 0
  gaps : Nat := 0
  held : Nat := 0
  overrun : Nat := 0
  refused : Nat := 0
  long : Nat := 0
  short : Nat := 0
  check : Nat := 0
  kind : Nat := 0
  purged : Nat := 0
  answersLost : Nat := 0
  strangersHeard : Nat := 0
  strangerOverflow : Nat := 0
  blind : Nat := 0
deriving DecidableEq, Repr

/-- Capture Intake (R47). -/
structure Intake where
  /-- The Intake Queue, oldest first (R41). -/
  queue : List IntakeEntry := []
  /-- The Answer Queue, oldest first (R43). -/
  answers : List Answer := []
  transmitter : FieldTransmitter := .idle
  counters : IntakeCounters := {}
  captureLimit : Nat := Config.captureLimit
  holdThreshold : Nat := Config.holdThreshold
deriving DecidableEq, Repr

/-! ## Stranger List -/

/-- An entry of the Stranger List (R108). -/
structure StrangerEntry where
  identity : Identity
  firstHeard : Nat
  lastHeard : Nat
  heardCount : Nat
  lastSeq : BitVec 4
  bestRssi : Int
  bestAntenna : Nat
  joined : Bool
deriving DecidableEq, Repr

/-- The Stranger List, oldest first, and its age item (R107, R113). -/
structure Strangers where
  entries : List StrangerEntry := []
  age : Nat := Config.strangerAge
deriving DecidableEq, Repr

/-! ## Reports -/

/-- The bin summary a bin-related report carries (R120); its due time is converted when the report is built. -/
structure Summary where
  identity : Identity
  slot : Nat
  profile : Fin 16
  district : Fin 32
  standing : Standing
  fill : Option Nat
  band : Band
  projected : Bool
  hours : Nat
  due : Option Nat
  conditions : AlarmSet
deriving DecidableEq, Repr

/-- The record detail of SNAPSHOT and QUERY (R180); its times are converted when the message is built. -/
structure Detail where
  ackMode : AckMode
  expectation : Option (BitVec 4)
  rateValid : Bool
  rebasePending : Bool
  rate : Nat
  lastReading : Option Nat
  lastHeard : Nat
  lastReported : Option Nat
  battery : Option Nat
  lastRssi : Option Int
  lastAntenna : Option Nat
  latches : AlarmSet
  owed : BitVec 8
  deadline : Nat
  estimated : Nat
  missed : Nat
  duplicates : Nat
  emptied : Nat
  lastEmptied : Option Nat
  enrolTime : Nat
deriving DecidableEq, Repr

/-- The nine report kinds with what each carries (R120, R31, R110, R150). -/
inductive ReportBody
  | fill (bin : Summary)
  | malformed (reason : Malformed) (source : Source) (length : Nat) (identity : Option Identity)
      (heard : Option (Int × Nat))
  | soon (bin : Summary)
  | emptied (bin : Summary) (previous count : Nat)
  | stranger (identity : Identity) (join : Bool) (seq : BitVec 4) (rssi : Int) (antenna count : Nat)
  | snapshot (bin : Summary) (detail : Detail)
  | sweepEnd (reason : PendingEnd) (channel : Fin 8) (visited emitted : Nat)
  | due (bin : Summary)
  | alarm (bin : Summary) (rose : Alarm) (latches : AlarmSet)
deriving DecidableEq, Repr

/-- A report as built: its unset flag and generation time (R158), and its contents. -/
structure Report where
  unset : Bool
  time : Nat
  body : ReportBody
deriving DecidableEq, Repr

/-- What an event on a record raises, before its contents are taken from the record as the event leaves it (R71, R75,
R99). -/
inductive Raised
  | alarm (rose : Alarm)
  | emptied (previous : Nat)
  | fill
  | soon
  | due
deriving DecidableEq, Repr

/-- A report offer, and the slot of the record a bin-related one concerns (R119). -/
structure Offer where
  report : Report
  concerns : Option Nat
deriving DecidableEq, Repr

/-- A copy's record reference (R121). -/
inductive RecordRef
  /-- The copy is not bin-related. -/
  | absent
  | attached (slot : Nat)
  | detached
deriving DecidableEq, Repr

/-- A copy in a channel queue (R120, R121). -/
structure Copy where
  report : Report
  ref : RecordRef
deriving DecidableEq, Repr

/-- The five counters of a channel, in the order of R139. -/
structure ChannelCounters where
  transmitted : Nat := 0
  shedLow : Nat := 0
  shedNormal : Nat := 0
  shedHigh : Nat := 0
  flushed : Nat := 0
deriving DecidableEq, Repr

/-- A channel, with its values after reset (R122). -/
structure Channel where
  enabled : Bool := false
  kindMask : BitVec 8 := 0
  profileMask : BitVec 16 := 0
  districtMask : BitVec 32 := 0
  shedThreshold : Nat := 0
  credit : Nat := 0
  /-- Oldest first; the head is the copy next to be sent, or being sent (R127). -/
  queue : List Copy := []
  counters : ChannelCounters := {}
deriving DecidableEq, Repr

/-- Report Channels (R122, R135, R140). -/
structure Reports where
  channels : Vector Channel 8 := Vector.replicate 8 {}
  arbitration : Arbitration := .rotate
  /-- The channel of the last channel begin (R135). -/
  rotation : Option (Fin 8) := none
deriving DecidableEq, Repr

/-! ## Sweep Unit -/

/-- The Sweep Unit, with its power-on values (R144, R155). -/
structure Sweep where
  state : SweepState := .idle
  channel : Fin 8 := 0
  selection : Selection := .all
  /-- The minimum band as given: any byte is stored for ALL and OWED (R145). -/
  minimumBand : Byte := 3#8
  profileMask : BitVec 16 := 0
  districtMask : BitVec 32 := 0
  cursor : Nat := 0
  visited : Nat := 0
  emitted : Nat := 0
  /-- In CLOSING, the reason the SWEEP_END will carry (R144); outside it nothing reads the item, log entry 21. -/
  pendingEnd : PendingEnd := .complete
  lastEnd : EndReason := .none
deriving DecidableEq, Repr

/-! ## Street Clock -/

/-- The Street Clock, with its power-on values (R156, R158, R161). -/
structure Clock where
  uptime : Nat := 0
  /-- The divider's position in its count of 32,768 oscillations (R156). -/
  divider : Nat := 0
  /-- The clock state: SET when true (R158). -/
  isSet : Bool := false
  offset : BitVec 32 := 0
  /-- The uptime of the last seconds event the Urgency List has taken (R157); log entry 5. -/
  walked : Nat := 0
  /-- The uptime of the last seconds event the Silence List has taken (R157); log entry 5. -/
  checked : Nat := 0
  /-- The uptime of the last seconds event the Stranger List has taken (R157); log entry 5. -/
  aged : Nat := 0
deriving DecidableEq, Repr

/-! ## Planner Link -/

/-- What STATUS reports of one channel (R169). -/
structure ChannelStatus where
  enabled : Bool
  credit : Nat
  length : Nat
deriving DecidableEq, Repr

/-- The five configuration items (R170). -/
structure ConfigItems where
  holdThreshold : Nat
  captureLimit : Nat
  soonHorizon : Nat
  strangerAge : Nat
  arbitration : Arbitration
deriving DecidableEq, Repr

/-- The items of a STATUS reply (R169). -/
structure StatusItems where
  uptime : Nat
  isSet : Bool
  offset : BitVec 32
  lastReset : ResetCause
  occupied : Nat
  strangers : Nat
  intakeLength : Nat
  commandLength : Nat
  poolFree : Nat
  channels : List ChannelStatus
  sweepState : SweepState
  cursor : Nat
  lastEnd : EndReason
  items : ConfigItems
deriving DecidableEq, Repr

/-- One entry of a LIST reply (R90). -/
structure ListEntry where
  identity : Identity
  band : Band
  projected : Bool
  overfull : Bool
  fill : Nat
  hours : Nat
  due : Nat
  standing : Standing
deriving DecidableEq, Repr

/-- A channel's configuration as CHANNEL-SET carries it (R123). -/
structure ChannelConfig where
  enabled : Bool
  kindMask : BitVec 8
  profileMask : BitVec 16
  districtMask : BitVec 32
  shedThreshold : Nat
deriving DecidableEq, Repr

/-- The replies, one constructor per layout of R183. Times are converted when the reply is built (R158). -/
inductive Reply
  /-- The refusal reply of type 0x80, with the type byte the command held (R167). -/
  | unknownCommand (type : Byte)
  | badLength
  /-- A refusal that carries the identity as given. -/
  | refusedIdentity (status : Status) (identity : Identity)
  /-- A refusal that carries the profile or channel index as given. -/
  | refusedIndex (status : Status) (index : Byte)
  /-- A refusal that is its status alone (LIST, CONFIG, COUNTERS). -/
  | refused (status : Status)
  | enrolled (slot : Nat)
  /-- AMEND and UNBAR. -/
  | done (identity : Identity)
  | retired (identity : Identity) (slot purged : Nat)
  | barred (identity : Identity) (purged : Nat)
  | record (unset : Bool) (bin : Summary) (detail : Detail) (window : List Nat)
  | injected (outcome : CaptureOutcome) (identity : Option Identity) (bin : Option (Nat × Option (BitVec 4)))
  | profile (status : Status) (index : Fin 16) (profile : Profile)
  | listing (status : Status) (unset more : Bool) (entries : List ListEntry)
  | alarms (status : Status) (identity : Identity) (latches conditions : AlarmSet)
  | strangers (unset : Bool) (entries : List StrangerEntry)
  | dismissed (unset : Bool) (entry : StrangerEntry)
  | channel (index : Fin 8) (config : ChannelConfig) (credit flushed : Nat)
  | credit (status : Status) (index : Fin 8) (credit : Nat)
  | sweep (status : Status) (state : SweepState) (cursor : Nat)
  | time (offset : BitVec 32) (uptime street : Nat)
  | status (items : StatusItems)
  | config (status : Status) (items : ConfigItems)
  | counters (values : List Nat)
  /-- The OK reply of a RESTART whose restart is pending (R172). -/
  | restart
deriving DecidableEq, Repr

/-- The three conditions of a Command Queue entry (R165). -/
inductive Condition
  | held
  | answered (reply : Reply)
  | sending (reply : Reply)
deriving DecidableEq, Repr

/-- An entry of the Command Queue: type, tag and body as received (R164), and its condition. -/
structure Command where
  type : Byte
  tag : Byte
  body : List Byte
  condition : Condition
deriving DecidableEq, Repr

/-- The start notice (R174). -/
structure StartNotice where
  cause : ResetCause
  occupied : Nat
  isSet : Bool
deriving DecidableEq, Repr

/-- The parties the planner link transmitter sends for (R134). -/
inductive Party
  | startNotice
  | reply
  | channel (c : Fin 8)
deriving DecidableEq, Repr

/-- The planner link transmitter (R134), with the frame it is sending (R177). A copy is in transmission exactly while
the transmitter sends for its channel and it is the head of the queue (R136). DEDUCED, safe, log entry 9. -/
inductive Transmitter
  | idle
  | sending (party : Party) (frame : List Byte)
deriving DecidableEq, Repr

/-- The six link counters (R163, R175). -/
structure LinkCounters where
  plannerBad : Nat := 0
  plannerOverlong : Nat := 0
  commandsOverflow : Nat := 0
  fieldBad : Nat := 0
  fieldOverlong : Nat := 0
  unknownType : Nat := 0
deriving DecidableEq, Repr

/-- The Planner Link and both links' receivers (R162, R165, R172 to R175). A receiver holds the bytes from a lead byte
on that it has collected; holding none it hunts (R162). -/
structure LinkState where
  /-- The Command Queue, oldest first (R165). -/
  commands : List Command := []
  restartPending : Bool := false
  counters : LinkCounters := {}
  plannerHeld : List Byte := []
  fieldHeld : List Byte := []
  transmitter : Transmitter := .idle
  /-- The start notice while it waits for its transmission to begin (R174). -/
  startNotice : Option StartNotice
  lastReset : ResetCause
  /-- RESET_N is low (R173). -/
  resetLow : Bool := false
deriving DecidableEq, Repr

/-! ## Tables -/

/-- A table of numbered slots: pairs of a slot and what it holds, slots strictly rising, vacant slots not listed. -/
abbrev SlotTable (α : Type) := List (Nat × α)

end Sys2Proof.Machine
end

