-- ==== Sys2Proof/Machine/Flags.lean ====
section
/-! DEFINITION. Condition sets and latches, owed masks, subscription masks, and the flag bytes of the messages. -/

namespace Sys2Proof.Machine

/-- Whether an alarm is in a set. -/
def AlarmSet.has (set : AlarmSet) : Alarm → Bool
  | .lid => set.lid
  | .tilt => set.tilt
  | .overfull => set.overfull
  | .lapse => set.lapse

/-- The set with one alarm put in or taken out. -/
def AlarmSet.put (set : AlarmSet) (a : Alarm) (v : Bool) : AlarmSet :=
  match a with
  | .lid => { set with lid := v }
  | .tilt => { set with tilt := v }
  | .overfull => { set with overfull := v }
  | .lapse => { set with lapse := v }

/-- The alarms of the first set that are in the second. -/
def AlarmSet.inter (x y : AlarmSet) : AlarmSet :=
  { lid := x.lid && y.lid
    tilt := x.tilt && y.tilt
    overfull := x.overfull && y.overfull
    lapse := x.lapse && y.lapse }

/-- No alarm is in the set. -/
def AlarmSet.isEmpty (x : AlarmSet) : Bool := !(x.lid || x.tilt || x.overfull || x.lapse)

/-- A flag as a bit's value. -/
def flagBit (b : Bool) (weight : Nat) : Nat := if b then weight else 0

/-- The byte of a condition set (R179). -/
def AlarmSet.byte (x : AlarmSet) : Byte :=
  byteOf (flagBit x.lid 1 + flagBit x.tilt 2 + flagBit x.overfull 4 + flagBit x.lapse 8)

/-- A condition set read from a byte, its low four bits (R179). -/
def AlarmSet.ofByte (b : Byte) : AlarmSet :=
  { lid := b.getLsbD 0
    tilt := b.getLsbD 1
    overfull := b.getLsbD 2
    lapse := b.getLsbD 3 }

/-- The byte of one alarm, one condition bit (R181). -/
def Alarm.byte (a : Alarm) : Byte := (AlarmSet.put {} a true).byte

/-- The latches CLEAR-ALARMS leaves: those of the mask whose condition is absent are cleared (R101). -/
def clearLatches (mask conditions latches : AlarmSet) : AlarmSet :=
  { lid := latches.lid && !(mask.lid && !conditions.lid)
    tilt := latches.tilt && !(mask.tilt && !conditions.tilt)
    overfull := latches.overfull && !(mask.overfull && !conditions.overfull)
    lapse := latches.lapse && !(mask.lapse && !conditions.lapse) }

/-- The mask with a channel's bit set (R130). -/
def owedSet (c : Fin 8) (mask : BitVec 8) : BitVec 8 := mask ||| (1#8 <<< c.val)

/-- The mask with a channel's bit clear (R132). -/
def owedClear (c : Fin 8) (mask : BitVec 8) : BitVec 8 := mask &&& ~~~(1#8 <<< c.val)

/-- The bit of a kind in a channel's kind mask (R179). -/
def ChannelKind.bit : ChannelKind → Nat
  | .fill => 0
  | .malformed => 1
  | .soon => 2
  | .emptied => 3
  | .stranger => 4
  | .due => 5
  | .alarm => 6

/-- The kind a channel subscribes to; none for the two sweep kinds (R119). -/
def ReportBody.channelKind : ReportBody → Option ChannelKind
  | .fill _ => some .fill
  | .malformed _ _ _ _ _ => some .malformed
  | .soon _ => some .soon
  | .emptied _ _ _ => some .emptied
  | .stranger _ _ _ _ _ _ => some .stranger
  | .due _ => some .due
  | .alarm _ _ _ => some .alarm
  | .snapshot _ _ => none
  | .sweepEnd _ _ _ _ => none

/-- A report's priority, by its kind alone (R119). -/
def ReportBody.priority : ReportBody → Priority
  | .fill _ => .low
  | .malformed _ _ _ _ _ => .low
  | .soon _ => .normal
  | .emptied _ _ _ => .normal
  | .stranger _ _ _ _ _ _ => .normal
  | .snapshot _ _ => .normal
  | .sweepEnd _ _ _ _ => .normal
  | .due _ => .high
  | .alarm _ _ _ => .high

/-- The summary of a bin-related report (R119, R120). -/
def ReportBody.summary : ReportBody → Option Summary
  | .fill b => some b
  | .malformed _ _ _ _ _ => none
  | .soon b => some b
  | .emptied b _ _ => some b
  | .stranger _ _ _ _ _ _ => none
  | .snapshot b _ => some b
  | .sweepEnd _ _ _ _ => none
  | .due b => some b
  | .alarm b _ _ => some b

/-- The summary flags: fill present, due time present, projected (R180). -/
def summaryFlags (b : Summary) : Byte :=
  byteOf (flagBit b.fill.isSome 1 + flagBit b.due.isSome 2 + flagBit b.projected 4)

/-- The detail flags (R180). Bit 6 stands for RSSI and antenna, which a record always holds together: DEDUCED, safe, log
entry 17. -/
def detailFlags (d : Detail) : Byte :=
  byteOf (flagBit d.rateValid 1 + flagBit d.rebasePending 2 + flagBit d.lastReading.isSome 4 +
    flagBit d.lastEmptied.isSome 8 + flagBit d.lastReported.isSome 16 + flagBit d.battery.isSome 32 +
    flagBit d.lastRssi.isSome 64)

/-- The time flags of a message that names no further bit (R179). -/
def timeFlags (unset : Bool) : Byte := byteOf (flagBit unset 1)

/-- The time flags of a LIST reply, whose bit 1 is the more flag (R183). -/
def listFlags (unset more : Bool) : Byte := byteOf (flagBit unset 1 + flagBit more 2)

/-- The flags of a LIST entry: projected, OVERFULL (R183). -/
def listEntryFlags (e : ListEntry) : Byte := byteOf (flagBit e.projected 1 + flagBit e.overfull 2)

end Sys2Proof.Machine
end

