-- ==== Sys2Proof/Machine/Encoding.lean ====
section
/-! DEFINITION. The bytes of every message the part sends (R177 to R183): codes, reports, answers, the start notice and
replies. DEDUCED, safe, log entry 12: contents are fixed when built and written as bytes when their frame begins. -/

namespace Sys2Proof.Machine

/-! ## Codes (R179) -/

def Standing.code : Standing → Nat
  | .enrolled => 0
  | .active => 1
  | .silent => 2
  | .barred => 3

def Band.code : Band → Nat
  | .none => 0
  | .later => 1
  | .soon => 2
  | .due => 3

def AckMode.code : AckMode → Nat
  | .unanswered => 0
  | .answered => 1

def Source.code : Source → Nat
  | .field => 0
  | .relayed => 1

def Malformed.code : Malformed → Nat
  | .long => 1
  | .short => 2
  | .check => 3
  | .kind => 4

def Verdict.code : Verdict → Nat
  | .accept => 1
  | .hold => 2
  | .refuse => 3

def Status.code : Status → Nat
  | .ok => 0
  | .clamped => 1
  | .unknownCommand => 2
  | .badLength => 3
  | .range => 4
  | .noSuchBin => 5
  | .alreadyExists => 6
  | .tableFull => 7
  | .busy => 8
  | .channelOff => 9
  | .persisting => 10
  | .notRunning => 11

def Arbitration.code : Arbitration → Nat
  | .rotate => 0
  | .ranked => 1

def ResetCause.code : ResetCause → Nat
  | .powerOn => 0
  | .line => 1
  | .command => 2

def SweepState.code : SweepState → Nat
  | .idle => 0
  | .running => 1
  | .waiting => 2
  | .closing => 3

def EndReason.code : EndReason → Nat
  | .none => 0
  | .complete => 1
  | .aborted => 2
  | .channelOff => 3
  | .reset => 4

/-- The end reason a pending one becomes (R150). -/
def PendingEnd.reason : PendingEnd → EndReason
  | .complete => .complete
  | .aborted => .aborted

/-- The outcome code of an INJECT reply; an injected capture is never overrun (R39). -/
def CaptureOutcome.code : CaptureOutcome → Nat
  | .accepted => 0
  | .duplicate => 1
  | .stale => 2
  | .held => 3
  | .refused => 4
  | .stranger => 5
  | .malformed _ => 6
  | .overrun => 3

/-- The reason byte of an INJECT reply, 0 unless MALFORMED (R183). -/
def CaptureOutcome.reasonCode : CaptureOutcome → Nat
  | .malformed why => why.code
  | .accepted | .duplicate | .stale | .held | .refused | .stranger | .overrun => 0

/-- The sequence expectation byte; 0xFF for UNSET (R179). -/
def expectationByte : Option (BitVec 4) → Byte
  | some e => byteOf e.toNat
  | none => 0xFF#8

/-- A yes/no byte (R179). -/
def boolByte (b : Bool) : Byte := byteOf (flagBit b 1)

/-! ## Parts of messages -/

/-- The bin summary, 20 bytes; absent fields are zero bytes (R180, R179). -/
def Summary.bytes (b : Summary) : List Byte :=
  be32 b.identity.toNat ++ be16 b.slot ++
    [byteOf b.profile, byteOf b.district, byteOf b.standing.code, byteOf b.band.code, summaryFlags b] ++
    be16 (b.fill.getD 0) ++ be16 b.hours ++ be32 (b.due.getD 0) ++ [b.conditions.byte]

/-- The record detail, 40 bytes (R180). -/
def Detail.bytes (d : Detail) : List Byte :=
  [byteOf d.ackMode.code, expectationByte d.expectation, detailFlags d] ++ be16 d.rate ++ be32 (d.lastReading.getD 0) ++
    be32 d.lastHeard ++ be16 (d.lastReported.getD 0) ++
    [byteOf (d.battery.getD 0), signedByte (d.lastRssi.getD 0), byteOf (d.lastAntenna.getD 0), d.latches.byte, d.owed] ++
    be32 d.deadline ++ be16 d.estimated ++ be16 d.missed ++ be16 d.duplicates ++ be16 d.emptied ++
    be32 (d.lastEmptied.getD 0) ++ be32 d.enrolTime

/-- A Stranger List entry, 17 bytes (R183). -/
def StrangerEntry.bytes (e : StrangerEntry) : List Byte :=
  be32 e.identity.toNat ++ be32 e.firstHeard ++ be32 e.lastHeard ++
    [byteOf e.heardCount, byteOf e.lastSeq.toNat, signedByte e.bestRssi, byteOf e.bestAntenna, boolByte e.joined]

/-- A LIST entry, 15 bytes (R183). -/
def ListEntry.bytes (e : ListEntry) : List Byte :=
  be32 e.identity.toNat ++ [byteOf e.band.code, listEntryFlags e] ++ be16 e.fill ++ be16 e.hours ++ be32 e.due ++
    [byteOf e.standing.code]

/-- A profile laid out as the PROFILE-SET body, 16 bytes (R182). -/
def profileBytes (index : Fin 16) (p : Profile) : List Byte :=
  byteOf index :: (be16 p.emptyDepth ++ be16 p.fullDepth ++ be16 p.threshold ++
    [byteOf p.fillWeight, byteOf p.rateWeight, boolByte p.median] ++
    be16 p.emptiedDrop ++ be16 p.reportStep ++ be16 p.silenceLimit)

/-- A channel's configuration laid out as the CHANNEL-SET body, 10 bytes (R182). -/
def channelBytes (index : Fin 8) (c : ChannelConfig) : List Byte :=
  [byteOf index, boolByte c.enabled, c.kindMask] ++ be16 c.profileMask.toNat ++ be32 c.districtMask.toNat ++
    [byteOf c.shedThreshold]

/-- The configuration items laid out as the CONFIG body, 11 bytes (R182). -/
def ConfigItems.bytes (c : ConfigItems) : List Byte :=
  [byteOf c.holdThreshold, byteOf c.captureLimit] ++ be32 c.soonHorizon ++ be32 c.strangerAge ++
    [byteOf c.arbitration.code]

/-- A channel in the STATUS body, 4 bytes (R183). -/
def ChannelStatus.bytes (c : ChannelStatus) : List Byte := boolByte c.enabled :: (be16 c.credit ++ [byteOf c.length])

/-- The STATUS body after its status byte, 64 bytes (R183). -/
def StatusItems.bytes (i : StatusItems) : List Byte :=
  be32 i.uptime ++ [boolByte i.isSet] ++ be32 i.offset.toNat ++ [byteOf i.lastReset.code] ++ be16 i.occupied ++
    [byteOf i.strangers, byteOf i.intakeLength, byteOf i.commandLength] ++ be16 i.poolFree ++
    i.channels.flatMap ChannelStatus.bytes ++ [byteOf i.sweepState.code] ++ be16 i.cursor ++ [byteOf i.lastEnd.code] ++
    i.items.bytes

/-! ## Reports -/

/-- The frame type of a report (R177). -/
def ReportBody.type : ReportBody → Byte
  | .fill _ => 0x40#8
  | .malformed _ _ _ _ _ => 0x41#8
  | .soon _ => 0x42#8
  | .emptied _ _ _ => 0x43#8
  | .stranger _ _ _ _ _ _ => 0x44#8
  | .snapshot _ _ => 0x45#8
  | .sweepEnd _ _ _ _ => 0x46#8
  | .due _ => 0x47#8
  | .alarm _ _ _ => 0x48#8

/-- What follows the header of a report (R181). -/
def ReportBody.bytes : ReportBody → List Byte
  | .fill b => b.bytes
  | .malformed reason source length identity heard =>
    [byteOf reason.code, byteOf source.code] ++ be16 length ++
      [byteOf (flagBit identity.isSome 1 + flagBit heard.isSome 2)] ++
      be32 ((identity.map BitVec.toNat).getD 0) ++
      [signedByte ((heard.map Prod.fst).getD 0), byteOf ((heard.map Prod.snd).getD 0)]
  | .soon b => b.bytes
  | .emptied b previous count => b.bytes ++ be16 previous ++ be16 count
  | .stranger identity join seq rssi antenna count =>
    be32 identity.toNat ++
      [byteOf (if join then 2 else 1), byteOf seq.toNat, signedByte rssi, byteOf antenna, byteOf count]
  | .snapshot b d => b.bytes ++ d.bytes
  | .sweepEnd reason channel visited emitted =>
    [byteOf reason.reason.code, byteOf channel] ++ be16 visited ++ be16 emitted
  | .due b => b.bytes
  | .alarm b rose latches => b.bytes ++ [rose.byte, latches.byte]

/-- A report's body: header, then its contents (R180, R181). -/
def Report.bytes (r : Report) : List Byte := timeFlags r.unset :: (be32 r.time ++ r.body.bytes)

/-- The frame of a report sent by a channel: the tag is the channel's index (R177). -/
def Report.frame (r : Report) (c : Fin 8) : List Byte := frameBytes r.body.type (byteOf c) r.bytes

/-! ## Answers and the start notice -/

/-- An answer's frame: tag 0, six bytes of body (R177, R178). -/
def Answer.frame (a : Answer) : List Byte :=
  frameBytes answerType 0 (be32 a.identity.toNat ++ [byteOf a.seq.toNat, byteOf a.verdict.code])

/-- The start notice's frame: tag 0, four bytes of body (R174, R181). -/
def StartNotice.frame (n : StartNotice) : List Byte :=
  frameBytes startNoticeType 0 (byteOf n.cause.code :: (be16 n.occupied ++ [boolByte n.isSet]))

/-! ## Replies -/

/-- A reply's status (R167). -/
def Reply.statusOf : Reply → Status
  | .unknownCommand _ => .unknownCommand
  | .badLength => .badLength
  | .refusedIdentity st _ => st
  | .refusedIndex st _ => st
  | .refused st => st
  | .enrolled _ => .ok
  | .done _ => .ok
  | .retired _ _ _ => .ok
  | .barred _ _ => .ok
  | .record _ _ _ _ => .ok
  | .injected _ _ _ => .ok
  | .profile st _ _ => st
  | .listing st _ _ _ => st
  | .alarms st _ _ _ => st
  | .strangers _ _ => .ok
  | .dismissed _ _ => .ok
  | .channel _ _ _ _ => .ok
  | .credit st _ _ => st
  | .sweep st _ _ => st
  | .time _ _ _ => .ok
  | .status _ => .ok
  | .config st _ => st
  | .counters _ => .ok
  | .restart => .ok

/-- A window entry of the QUERY reply; entries beyond the count are zero (R183). -/
def windowBytes (w : List Nat) : List Byte :=
  byteOf w.length :: (be16 (w.getD 0 0) ++ be16 (w.getD 1 0) ++ be16 (w.getD 2 0))

/-- What follows the status byte of a reply (R183). -/
def Reply.contents : Reply → List Byte
  | .unknownCommand type => [type]
  | .badLength => []
  | .refusedIdentity _ identity => be32 identity.toNat
  | .refusedIndex _ index => [index]
  | .refused _ => []
  | .enrolled slot => be16 slot
  | .done identity => be32 identity.toNat
  | .retired identity slot purged => be32 identity.toNat ++ be16 slot ++ [byteOf purged]
  | .barred identity purged => be32 identity.toNat ++ [byteOf purged]
  | .record unset b d window => timeFlags unset :: (b.bytes ++ d.bytes ++ windowBytes window)
  | .injected outcome identity bin =>
    [byteOf outcome.code, byteOf outcome.reasonCode, byteOf (flagBit identity.isSome 1 + flagBit bin.isSome 2)] ++
      be32 ((identity.map BitVec.toNat).getD 0) ++ be16 ((bin.map Prod.fst).getD 0) ++
      [(bin.map fun p => expectationByte p.2).getD 0]
  | .profile _ index p => profileBytes index p
  | .listing _ unset more entries =>
    [listFlags unset more, byteOf entries.length] ++ entries.flatMap ListEntry.bytes
  | .alarms _ identity latches conditions => be32 identity.toNat ++ [latches.byte, conditions.byte]
  | .strangers unset entries => [timeFlags unset, byteOf entries.length] ++ entries.flatMap StrangerEntry.bytes
  | .dismissed unset entry => timeFlags unset :: entry.bytes
  | .channel index settings credits discarded => channelBytes index settings ++ be16 credits ++ [byteOf discarded]
  | .credit _ index credits => byteOf index :: be16 credits
  | .sweep _ state cursor => byteOf state.code :: be16 cursor
  | .time offset uptime street => byteOf 1 :: (be32 offset.toNat ++ be32 uptime ++ be32 street)
  | .status items => items.bytes
  | .config _ items => items.bytes
  | .counters values => values.flatMap be32
  | .restart => []

/-- A reply's body: the status byte first (R182). -/
def Reply.bytes (r : Reply) : List Byte := byteOf r.statusOf.code :: r.contents

/-- A reply's frame type: the command's type plus 0x80, or the refusal type 0x80 (R167). -/
def Reply.type (r : Reply) (command : Byte) : Byte :=
  match r with
  | .unknownCommand _ => 0x80#8
  | _ => command + 0x80#8

/-- A reply's frame, with the tag of its command (R167). -/
def Reply.frame (r : Reply) (command tag : Byte) : List Byte := frameBytes (r.type command) tag r.bytes

end Sys2Proof.Machine
end

