-- ==== Sys2Proof/Machine/Operands.lean ====
section
/-! DEFINITION. The operands of the commands: the fields of each command body (R182), the reading of enumerations and
the clamping of quantities (R179), and the fields of captures and sensor frames (R178). -/

namespace Sys2Proof.Machine

/-- A valid identity is 1 to 0xFFFFFFFE (00_scope.md, Terms). -/
def validIdentity (i : Identity) : Bool := i != 0#32 && i != 0xFFFFFFFF#32

/-- The identity at the head of a command body or a sensor frame (R178, R182). -/
def identityAt (body : List Byte) (i : Nat) : Identity := BitVec.ofNat 32 (nat32At body i)

/-- A quantity brought to the nearer limit of its range (00_scope.md, Out-of-range inputs). -/
def clamp (lo hi n : Nat) : Nat := max lo (min hi n)

/-- An index below 16, or none. -/
def index16 (n : Nat) : Option (Fin 16) := if n < 16 then some (Fin.ofNat 16 n) else none

/-- An index below 32, or none. -/
def index32 (n : Nat) : Option (Fin 32) := if n < 32 then some (Fin.ofNat 32 n) else none

/-- An index below 8, or none. -/
def index8 (n : Nat) : Option (Fin 8) := if n < 8 then some (Fin.ofNat 8 n) else none

/-- A yes/no item: 0 no, 1 yes, anything else outside its encoding (R179). -/
def readYesNo : Nat → Option Bool
  | 0 => some false
  | 1 => some true
  | _ => none

/-- The ack mode's encoding (R179). -/
def readAckMode : Nat → Option AckMode
  | 0 => some .unanswered
  | 1 => some .answered
  | _ => none

/-- The arbitration mode's encoding (R179). -/
def readArbitration : Nat → Option Arbitration
  | 0 => some .rotate
  | 1 => some .ranked
  | _ => none

/-- The selection's encoding (R179). -/
def readSelection : Nat → Option Selection
  | 0 => some .all
  | 1 => some .owed
  | 2 => some .band
  | _ => none

/-- A minimum band is 1 to 3 (R179). -/
def validMinimumBand (n : Nat) : Bool := 1 ≤ n && n ≤ 3

/-- A field of AMEND whose presence bit is clear is not checked; a present one must be inside its encoding (R17, R182):
none refuses the command, some none leaves the stored value. -/
def optionalField {α : Type} (present : Bool) (value : Option α) : Option (Option α) :=
  if present then value.map some else some none

/-- The body lengths each command allows (R182). -/
def fixedLength (n : Nat) (length : Nat) : Bool := length == n

/-- INJECT allows 4 to 598 bytes (R182). -/
def injectLength (length : Nat) : Bool := 4 ≤ length && length ≤ 598

/-- The antenna of a receive metadata byte, clamped to 3 (R27). -/
def clampAntenna (b : Byte) : Nat := min b.toNat 3

/-- The RSSI of a receive metadata byte, signed and clamped to 0 dBm (R27). -/
def clampRssi (b : Byte) : Int := min b.toInt 0

/-- The identity bytes as received, absent in a frame of fewer than four bytes (R28, R31). -/
def frameIdentity (frame : List Byte) : Option Identity :=
  if frame.length < 4 then none else some (identityAt frame 0)

/-- The kind in the low four bits of the control byte (R178). -/
def frameKind (frame : List Byte) : Nat := byteAt frame 4 % 16

/-- The sequence number in the high four bits of the control byte (R178). -/
def frameSeq (frame : List Byte) : BitVec 4 := BitVec.ofNat 4 (byteAt frame 4 / 16)

/-- The content of a READING's body: distance in bits 11 to 0 of the word, lid in bit 12, tilt in bit 13 (R30, R178). -/
def readingContent (frame : List Byte) : Content :=
  let word := nat16At frame 5
  .reading (word % 4096) (word / 4096 % 2 == 1) (word / 8192 % 2 == 1) (byteAt frame 7)

/-- The frame's CRC-16 over all bytes but the last two equals the last two, big-endian (R30). -/
def frameIntact (frame : List Byte) : Bool :=
  crc16 (frame.take (frame.length - 2)) == BitVec.ofNat 16 (nat16At frame (frame.length - 2))

/-- The six checks of a sensor frame, in their order (R29). -/
def checkFrame (captureLimit : Nat) (frame : List Byte) : Checked :=
  if captureLimit < frame.length then .failed .long
  else if frame.length < 7 then .failed .short
  else if !frameIntact frame then .failed .check
  else if frameKind frame ≠ 1 ∧ frameKind frame ≠ 2 then .failed .kind
  else if frameKind frame = 1 ∧ frame.length < 10 then .failed .short
  else if !validIdentity (identityAt frame 0) then .failed .kind
  else
    .good
      { identity := identityAt frame 0
        seq := frameSeq frame
        content := if frameKind frame = 1 then readingContent frame else .join }

/-- A field capture's body: antenna, RSSI, sensor frame; a body of fewer than two bytes has no metadata and an empty
frame (R27). -/
def fieldCapture (arrival : Nat) : List Byte → Capture
  | antenna :: rssi :: frame =>
    { source := .field, arrival := arrival, heard := some (clampRssi rssi, clampAntenna antenna), frame := frame }
  | _ => { source := .field, arrival := arrival, heard := none, frame := [] }

/-- An INJECT body: age, antenna, RSSI, sensor frame; the arrival time is uptime minus the age, floored at 0 (R28). -/
def relayedCapture (uptime : Nat) (body : List Byte) : Capture :=
  { source := .relayed
    arrival := uptime - nat16At body 0
    heard := some (clampRssi (body.getD 3 0), clampAntenna (body.getD 2 0))
    frame := body.drop 4 }

end Sys2Proof.Machine
end

