-- ==== Sys2Proof/Machine/State.lean ====
section
/-! DEFINITION. The state of the part as plain data, the (empty) list of faults, the refusals, and the state right after
power-on reset. INVENTORY.md, State, lists every piece with its rule. -/

namespace Sys2Proof.Machine

/-- Everything the manual gives the part, block by block, and the queue of commands waiting to be taken. -/
structure State where
  /-- The commands waiting to be taken, first in, first out (the model's own; log entries 13 and 18). -/
  pending : List Instr
  /-- The Bin Table: the occupied slots with their records (R1). -/
  bins : SlotTable BinRecord
  /-- The Profile Table (R49). -/
  profiles : Vector Profile 16
  /-- The Street Clock (R156, R158). -/
  clock : Clock
  /-- Capture Intake (R47). -/
  intake : Intake
  /-- The soon horizon of the Urgency List (R84). -/
  soonHorizon : Nat
  /-- The Stranger List (R107). -/
  strangers : Strangers
  /-- Report Channels (R122). -/
  reports : Reports
  /-- The Sweep Unit (R144). -/
  sweep : Sweep
  /-- The Planner Link and the receivers (R162 to R175). -/
  link : LinkState
deriving DecidableEq, Repr

/-- Why the part would stop: it never does ('The part has no device-wide error state', R167), so there is no
constructor, raised by nothing; safe. -/
inductive Fault
deriving DecidableEq, Repr

/-- Why the model refuses a command. -/
inductive Refusal
  /-- The command has no meaning yet. Raised by an arm of exec only, by none of them now; safe. -/
  | notModelled (mnemonic : String)
deriving DecidableEq, Repr

/-- The part right after power-on reset (R25, R47, R50, R85, R106, R118, R140, R155, R161, R174, R175). RESET_N is high:
DESIGN CHOICE, unsafe, log entry 7. -/
def State.reset : State where
  pending := []
  bins := []
  profiles := Vector.replicate 16 {}
  clock := {}
  intake := {}
  soonHorizon := Config.soonHorizon
  strangers := {}
  reports := {}
  sweep := {}
  link :=
    { startNotice := some { cause := .powerOn, occupied := 0, isSet := false }
      lastReset := .powerOn }

end Sys2Proof.Machine
end

