-- ==== Sys2Proof/Machine/Ops.lean ====
section
/-! DEFINITION. The shared operations: saturating counts, the slot table and its views, the time conversion, offers and
copies with their owed bits, the sweep's placements and notifications, purging and detaching, the execution of a held
command, and the two reset kinds. -/

namespace Sys2Proof.Machine

/-! ## Counts -/

/-- A 32-bit count raised, saturating (R44, R139, R175). -/
def raise32 (n k : Nat) : Nat := min (n + k) Config.max32

/-- A 16-bit count raised, saturating (R6). -/
def raise16 (n k : Nat) : Nat := min (n + k) Config.max16

/-- The heard count raised by one, saturating at 255 (R108). -/
def raise8 (n : Nat) : Nat := min (n + 1) 255

/-! ## The slot table -/

/-- What a slot holds; none when it is vacant. -/
def tableGet {α : Type} : SlotTable α → Nat → Option α
  | [], _ => none
  | (k, v) :: rest, n => if k = n then some v else tableGet rest n

/-- The table with a slot occupied; slots stay strictly rising. -/
def tablePut {α : Type} : SlotTable α → Nat → α → SlotTable α
  | [], n, v => [(n, v)]
  | (k, w) :: rest, n, v =>
    if n < k then (n, v) :: (k, w) :: rest
    else if k = n then (n, v) :: rest
    else (k, w) :: tablePut rest n v

/-- The table with a slot vacant. -/
def tableRemove {α : Type} (t : SlotTable α) (n : Nat) : SlotTable α := t.filter fun p => p.1 != n

/-- The canonical form of a slot table: slots strictly rising and below the number of slots. -/
def tableWf {α : Type} (t : SlotTable α) : Bool :=
  decide (t.Pairwise fun p q => p.1 < q.1) && t.all fun p => p.1 < Config.slots

/-- The lowest vacant slot from `k` on, within `fuel` slots. -/
def lowestVacantFrom {α : Type} (t : SlotTable α) : Nat → Nat → Option Nat
  | 0, _ => none
  | fuel + 1, k => if (tableGet t k).isNone then some k else lowestVacantFrom t fuel (k + 1)

/-! ## Block updates -/

def State.setPending (s : State) (x : List Instr) : State := { s with pending := x }
def State.setBins (s : State) (x : SlotTable BinRecord) : State := { s with bins := x }
def State.setProfiles (s : State) (x : Vector Profile 16) : State := { s with profiles := x }
def State.setClock (s : State) (x : Clock) : State := { s with clock := x }
def State.setIntake (s : State) (x : Intake) : State := { s with intake := x }
def State.setSoonHorizon (s : State) (x : Nat) : State := { s with soonHorizon := x }
def State.setStrangers (s : State) (x : Strangers) : State := { s with strangers := x }
def State.setReports (s : State) (x : Reports) : State := { s with reports := x }
def State.setSweep (s : State) (x : Sweep) : State := { s with sweep := x }
def State.setLink (s : State) (x : LinkState) : State := { s with link := x }

/-! ## Records and the identity map -/

/-- The record of a slot, if it is occupied (R1). -/
def State.bin (s : State) (slot : Nat) : Option BinRecord := tableGet s.bins slot

/-- The slot occupied by a record (R1). -/
def State.putBin (s : State) (slot : Nat) (r : BinRecord) : State := s.setBins (tablePut s.bins slot r)

/-- The record of a slot changed; a vacant slot stays vacant. -/
def State.mapBin (s : State) (slot : Nat) (f : BinRecord → BinRecord) : State :=
  s.setBins (s.bins.map fun p => (p.1, if p.1 = slot then f p.2 else p.2))

/-- The identity map: the slot and record an identity is held by (R2). DEDUCED, safe, log entry 8. -/
def State.find (s : State) (identity : Identity) : Option (Nat × BinRecord) :=
  s.bins.find? fun p => p.2.identity == identity

/-- The occupied count (R1). -/
def State.occupied (s : State) : Nat := s.bins.length

/-- The slot ENROL takes (R3). -/
def State.lowestVacant (s : State) : Option Nat := lowestVacantFrom s.bins Config.slots 0

/-- A profile as it stands in the Profile Table (R49). -/
def State.profile (s : State) (p : Fin 16) : Profile := s.profiles[p]

/-! ## The two ordered lists -/

/-- A key and a slot put in their place: keys ascending, ties in ascending slot (R76, R91). -/
def insertKey (x : Nat × Nat) : List (Nat × Nat) → List (Nat × Nat)
  | [] => [x]
  | y :: ys => if x.1 < y.1 ∨ (x.1 = y.1 ∧ x.2 ≤ y.2) then x :: y :: ys else y :: insertKey x ys

/-- Keys and slots in list order. -/
def sortKeys (l : List (Nat × Nat)) : List (Nat × Nat) := l.foldr insertKey []

/-- The Urgency List key of a record: its due time, when it is on the list (R76). -/
def urgencyKey (p : Nat × BinRecord) : Option (Nat × Nat) :=
  if p.2.band = .none ∨ p.2.standing = .barred then none else p.2.due.map fun d => (d, p.1)

/-- The Silence List key of a record: its silence deadline, when it is on the list (R91). -/
def silenceKey (p : Nat × BinRecord) : Option (Nat × Nat) :=
  if p.2.standing = .enrolled ∨ p.2.standing = .active then some (p.2.deadline, p.1) else none

/-- The Urgency List, each entry its due time and slot (R76). DEDUCED, safe, log entry 8. -/
def State.urgencyList (s : State) : List (Nat × Nat) := sortKeys (s.bins.filterMap urgencyKey)

/-- The Silence List, each entry its deadline and slot (R91). DEDUCED, safe, log entry 8. -/
def State.silenceList (s : State) : List (Nat × Nat) := sortKeys (s.bins.filterMap silenceKey)

/-! ## Times and what reports carry -/

/-- The conversion of a stored uptime in a message (R158). -/
def stamp (c : Clock) (time : Nat) : Nat := if c.isSet then (time + c.offset.toNat) % 4294967296 else time

/-- The bin summary of a record (R120). -/
def summaryOf (c : Clock) (slot : Nat) (r : BinRecord) : Summary :=
  { identity := r.identity
    slot := slot
    profile := r.profile
    district := r.district
    standing := r.standing
    fill := r.fill
    band := r.band
    projected := r.projected
    hours := r.hours
    due := r.due.map (stamp c)
    conditions := r.conditions }

/-- The record detail of a record (R180). -/
def detailOf (c : Clock) (r : BinRecord) : Detail :=
  { ackMode := r.ackMode
    expectation := r.expectation
    rateValid := r.rateValid
    rebasePending := r.rebasePending
    rate := r.rate
    lastReading := r.lastReading.map (stamp c)
    lastHeard := stamp c r.lastHeard
    lastReported := r.lastReported
    battery := r.battery
    lastRssi := r.lastRssi
    lastAntenna := r.lastAntenna
    latches := r.latches
    owed := r.owed
    deadline := stamp c r.deadline
    estimated := r.estimated
    missed := r.missed
    duplicates := r.duplicates
    emptied := r.emptied
    lastEmptied := r.lastEmptied.map (stamp c)
    enrolTime := stamp c r.enrolTime }

/-- A report built under the clock, with its generation time (R120, R158). -/
def reportAt (c : Clock) (time : Nat) (body : ReportBody) : Report :=
  { unset := !c.isSet, time := stamp c time, body := body }

/-- What a raised offer carries, from the record as the event leaves it (R71, R75, R99). -/
def raisedBody (c : Clock) (slot : Nat) (r : BinRecord) : Raised → ReportBody
  | .alarm a => .alarm (summaryOf c slot r) a r.latches
  | .emptied previous => .emptied (summaryOf c slot r) previous r.emptied
  | .fill => .fill (summaryOf c slot r)
  | .soon => .soon (summaryOf c slot r)
  | .due => .due (summaryOf c slot r)

/-- The offers an event raises about a record, in their order. -/
def offersOf (c : Clock) (time slot : Nat) (r : BinRecord) (raised : List Raised) : List Offer :=
  raised.map fun x => { report := reportAt c time (raisedBody c slot r x), concerns := some slot }

/-! ## Channels, copies and owed bits -/

/-- The channels in ascending index. -/
def allChannels : List (Fin 8) := [0, 1, 2, 3, 4, 5, 6, 7]

def State.channel (s : State) (c : Fin 8) : Channel := s.reports.channels[c]

def State.putChannel (s : State) (c : Fin 8) (ch : Channel) : State :=
  s.setReports { s.reports with channels := s.reports.channels.set c ch }

/-- The copies in the eight channel queues (R126). -/
def State.queued (s : State) : Nat := (allChannels.map fun c => (s.channel c).queue.length).sum

/-- Pool free (R126). DEDUCED, safe, log entry 8. -/
def State.poolFree (s : State) : Nat := Config.poolSlots - s.queued

/-- The owed bit of a channel set in a slot's record (R130). -/
def State.setOwed (s : State) (c : Fin 8) (slot : Nat) : State :=
  s.mapBin slot fun r => { r with owed := owedSet c r.owed }

/-- The owed bit of a channel cleared in a slot's record (R132). -/
def State.clearOwed (s : State) (c : Fin 8) (slot : Nat) : State :=
  s.mapBin slot fun r => { r with owed := owedClear c r.owed }

/-- A copy discarded untransmitted sets its owed bit when its reference is attached (R131). -/
def discardCopy (c : Fin 8) (s : State) (copy : Copy) : State :=
  match copy.ref with
  | .attached slot => s.setOwed c slot
  | .absent => s
  | .detached => s

/-- Copies of a channel discarded, oldest first (R131). -/
def discardCopies (c : Fin 8) (copies : List Copy) (s : State) : State := copies.foldl (discardCopy c) s

/-- The copy of an offer, its reference attached when it is bin-related (R121). -/
def copyOf (o : Offer) : Copy :=
  { report := o.report
    ref := match o.concerns with
      | some slot => .attached slot
      | none => .absent }

/-- Whether a channel's filters match an offer of a channel kind (R125). -/
def offerMatches (ch : Channel) (b : ReportBody) : Bool :=
  match b.channelKind with
  | none => false
  | some k =>
    ch.enabled && ch.kindMask.getLsbD k.bit &&
      match b.summary with
      | none => true
      | some bin => ch.profileMask.getLsbD bin.profile && ch.districtMask.getLsbD bin.district

/-- Whether a copy of this priority is queued (R128). -/
def admits (p : Priority) (poolFree : Nat) (ch : Channel) : Bool :=
  match p with
  | .low => 32 ≤ poolFree && ch.queue.length < 48 && ch.shedThreshold < ch.credit
  | .normal => 8 ≤ poolFree && ch.queue.length < Config.queuePlaces
  | .high => 1 ≤ poolFree && ch.queue.length < Config.queuePlaces

/-- The channel's shed counter of a priority raised by one (R128, R139). -/
def raiseShed (p : Priority) (k : ChannelCounters) : ChannelCounters :=
  match p with
  | .low => { k with shedLow := raise32 k.shedLow 1 }
  | .normal => { k with shedNormal := raise32 k.shedNormal 1 }
  | .high => { k with shedHigh := raise32 k.shedHigh 1 }

/-- A copy queued: it becomes the newest of the channel and clears its record's owed bit (R128, R132). -/
def queueCopy (o : Offer) (c : Fin 8) (s : State) : State :=
  let ch := s.channel c
  let t := s.putChannel c { ch with queue := ch.queue ++ [copyOf o] }
  match o.concerns with
  | some slot => t.clearOwed c slot
  | none => t

/-- A copy shed: it is counted and sets its record's owed bit (R128, R130). -/
def shedCopy (o : Offer) (c : Fin 8) (s : State) : State :=
  let ch := s.channel c
  let t := s.putChannel c { ch with counters := raiseShed o.report.body.priority ch.counters }
  match o.concerns with
  | some slot => t.setOwed c slot
  | none => t

/-- An offer compared with one channel and its copy judged at once (R125, R128). -/
def settleOn (o : Offer) (s : State) (c : Fin 8) : State :=
  if offerMatches (s.channel c) o.report.body then
    if admits o.report.body.priority s.poolFree (s.channel c) then queueCopy o c s else shedCopy o c s
  else s

/-- An offer settled: every channel in ascending index (R119, R125). -/
def settle (s : State) (o : Offer) : State := allChannels.foldl (settleOn o) s

/-- Offers settled one after another (R119). -/
def settleAll (offers : List Offer) (s : State) : State := offers.foldl settle s

/-- A record changed by an event, and what it raised. -/
abbrev Move := Nat × BinRecord × List Raised

/-- Several records changed in one event, then their offers settled in the moves' order (R82, R95). -/
def applyMoves (time : Nat) (moves : List Move) (s : State) : State :=
  settleAll (moves.flatMap fun m => offersOf s.clock time m.1 m.2.1 m.2.2)
    (moves.foldl (fun t m => t.putBin m.1 m.2.1) s)

/-- The channel's head copy is in transmission (R136). DEDUCED, safe, log entry 9. -/
def State.sendsFor (s : State) (c : Fin 8) : Bool :=
  match s.link.transmitter with
  | .sending (.channel d) _ => d == c
  | .sending .reply _ => false
  | .sending .startNotice _ => false
  | .idle => false

/-- The copies a flush of the channel leaves: the one in transmission (R124). -/
def State.keptCopies (s : State) (c : Fin 8) : List Copy :=
  if s.sendsFor c then (s.channel c).queue.take 1 else []

/-- The copies a flush of the channel discards (R124). -/
def State.flushedCopies (s : State) (c : Fin 8) : List Copy :=
  if s.sendsFor c then (s.channel c).queue.drop 1 else (s.channel c).queue

/-- A flush of a channel's queue (R124). -/
def flush (c : Fin 8) (s : State) : State :=
  let ch := s.channel c
  discardCopies c (s.flushedCopies c)
    (s.putChannel c
      { ch with
        queue := s.keptCopies c
        counters := { ch.counters with flushed := raise32 ch.counters.flushed (s.flushedCopies c).length } })

/-- Every attached copy concerning a slot is detached (R121). -/
def detachCopy (slot : Nat) (copy : Copy) : Copy :=
  if copy.ref = .attached slot then { copy with ref := .detached } else copy

/-- The copies concerning a retired record are detached in every queue (R20, R121). -/
def detachSlot (slot : Nat) (s : State) : State :=
  s.setReports
    { s.reports with
      channels := s.reports.channels.map fun ch => { ch with queue := ch.queue.map (detachCopy slot) } }

/-! ## The sweep's placements -/

/-- The NORMAL condition on the sweep's channel (R129). -/
def State.sweepHasRoom (s : State) : Bool := admits .normal s.poolFree (s.channel s.sweep.channel)

/-- The SWEEP_END offer, its counts as they stand (R150). -/
def sweepEndOffer (s : State) : Offer :=
  { report := reportAt s.clock s.clock.uptime
      (.sweepEnd s.sweep.pendingEnd s.sweep.channel s.sweep.visited s.sweep.emitted)
    concerns := none }

/-- The SWEEP_END placement judged (R150). -/
def judgeSweepEnd (s : State) : State :=
  if s.sweepHasRoom then
    (queueCopy (sweepEndOffer s) s.sweep.channel s).setSweep
      { s.sweep with state := .idle, lastEnd := s.sweep.pendingEnd.reason }
  else s

/-- The sweep enters CLOSING and its SWEEP_END is judged in the same event (R147, R151). -/
def enterClosing (why : PendingEnd) (s : State) : State :=
  judgeSweepEnd (s.setSweep { s.sweep with state := .closing, pendingEnd := why })

/-- A notification to the Sweep Unit (R149). -/
def notifySweep (s : State) : State :=
  match s.sweep.state with
  | .waiting => s.setSweep { s.sweep with state := .running }
  | .closing => judgeSweepEnd s
  | .idle => s
  | .running => s

/-! ## Purging -/

/-- The intake counters changed. -/
def State.countIntake (s : State) (f : IntakeCounters → IntakeCounters) : State :=
  s.setIntake { s.intake with counters := f s.intake.counters }

/-- How many Intake Queue entries name a slot. -/
def State.entriesOf (s : State) (slot : Nat) : Nat := (s.intake.queue.filter fun e => e.slot == slot).length

/-- The purge of a slot's Intake Queue entries, counted "purged" (R19). -/
def purge (slot : Nat) (s : State) : State :=
  s.setIntake
    { s.intake with
      queue := s.intake.queue.filter fun e => e.slot != slot
      counters := { s.intake.counters with purged := raise32 s.intake.counters.purged (s.entriesOf slot) } }

/-! ## Execution of a held command -/

/-- The entry has not been carried out yet (R165). -/
def Command.isHeld (e : Command) : Bool := e.condition == .held

/-- The oldest held entry (R166). -/
def State.oldestHeld (s : State) : Option Command := s.link.commands.find? Command.isHeld

/-- The oldest held entry becomes answered (R165). -/
def answerFirst (r : Reply) : List Command → List Command
  | [] => []
  | e :: es => if e.isHeld then { e with condition := .answered r } :: es else e :: answerFirst r es

/-- The reply of the oldest held entry is built and waits for the transmitter (R166, R167). -/
def State.answerHeld (s : State) (r : Reply) : State :=
  s.setLink { s.link with commands := answerFirst r s.link.commands }

/-- The execution of the oldest held entry, when it has the command type and no restart is pending: the body length is
checked, then the owning block acts and the entry becomes answered, all in one event (R166, R183). When the oldest held
entry is another command, or none is held, this event is not taken: DESIGN CHOICE, safe, log entry 2. -/
def carryOut (type : Byte) (lengthOk : Nat → Bool) (act : List Byte → State → State × Reply) (s : State) : State :=
  match s.oldestHeld with
  | none => s
  | some e =>
    if s.link.restartPending || e.type != type then s
    else if lengthOk e.body.length then (act e.body s).1.answerHeld (act e.body s).2
    else s.answerHeld .badLength

/-! ## Resets -/

/-- Every copy in the eight queues is discarded, setting its owed bit when attached (R141). -/
def discardPool (s : State) : State :=
  allChannels.foldl (fun t c => discardCopies c (s.channel c).queue t) s

/-- The engine reset of either cause: working state starts afresh, retained state is kept, and the start notice waits
(R26, R47, R48, R50, R85, R106, R118, R141, R155, R161, R165, R174, R175). -/
def engineReset (cause : ResetCause) (s : State) : State :=
  { pending := s.pending
    bins := (discardPool s).bins
    profiles := s.profiles
    clock := s.clock
    intake := {}
    soonHorizon := Config.soonHorizon
    strangers := {}
    reports := {}
    sweep := { lastEnd := if s.sweep.state = .idle then .none else .reset }
    link :=
      { startNotice := some { cause := cause, occupied := s.occupied, isSet := s.clock.isSet }
        lastReset := cause
        resetLow := s.link.resetLow } }

/-- The power-on reset: all state starts afresh (R25, R140, R161). The commands waiting outside stay, and so does the
level the outside holds RESET_N at: DESIGN CHOICE, unsafe, log entries 7 and 18. -/
def powerOn (s : State) : State :=
  { State.reset with
    pending := s.pending
    link := { State.reset.link with resetLow := s.link.resetLow } }

end Sys2Proof.Machine
end

