-- ==== Sys2Proof/Machine/Silence.lean ====
section
/-! DEFINITION. Silence deadlines and alarms (05_silence_deadlines_and_alarms.md): the deadline, the rise and fall of
conditions with their latches, the silence check, and CLEAR-ALARMS. -/

namespace Sys2Proof.Machine

/-- A silence deadline: base plus the profile's silence limit in minutes, saturating (R92). -/
def silenceDeadline (base : Nat) (p : Profile) : Nat := min (base + p.silenceLimit * 60) Config.max32

/-- A condition judged: it becomes as seen; a rise while its latch is clear sets the latch and raises one ALARM (R59,
R98). -/
def judgeCondition (a : Alarm) (present : Bool) (r : BinRecord) : BinRecord × List Raised :=
  let rises := present && !r.conditions.has a && !r.latches.has a
  ({ r with
      conditions := r.conditions.put a present
      latches := if rises then r.latches.put a true else r.latches },
    if rises then [.alarm a] else [])

/-- What the silence check does to an expired record (R94). -/
def expireRecord (r : BinRecord) : BinRecord × List Raised :=
  ({ r with
      standing := .silent
      conditions := r.conditions.put .lapse true
      latches := r.latches.put .lapse true },
    if r.latches.lapse then [] else [.alarm .lapse])

/-- The entries the check of second `uptime` visits, in list order (R94). -/
def checkVisited (uptime : Nat) (s : State) : List (Nat × Nat) := s.silenceList.takeWhile fun k => k.1 ≤ uptime

/-- The check's effect on each visited record (R94). -/
def checkMoves (uptime : Nat) (s : State) : List Move :=
  (checkVisited uptime s).filterMap fun k => (s.bin k.2).map fun r => (k.2, expireRecord r)

/-- The silence check, and the Silence List's next second counted as taken (R94, R95, R157). -/
def silenceCheck (s : State) : State :=
  let u := s.clock.checked + 1
  applyMoves u (checkMoves u s) (s.setClock { s.clock with checked := u })

/-- SILENCE_CHECK: taken when a seconds event waits for the Silence List (R94, R157); otherwise not taken, log entry
2. -/
def execSilenceCheck (s : State) : Host.Outcome State Fault Refusal :=
  .next (if s.clock.checked < s.clock.uptime then silenceCheck s else s)

/-- CLEAR-ALARMS carried out (R101, R102). -/
def clearAlarmsAct (body : List Byte) (s : State) : State × Reply :=
  let id := identityAt body 0
  let mask := AlarmSet.ofByte (body.getD 4 0)
  if !validIdentity id then (s, .refusedIdentity .range id)
  else if 16 ≤ byteAt body 4 then (s, .refusedIdentity .range id)
  else
    match s.find id with
    | none => (s, .refusedIdentity .noSuchBin id)
    | some (slot, r) =>
      let latches := clearLatches mask r.conditions r.latches
      (s.putBin slot { r with latches := latches },
        .alarms (if (mask.inter latches).isEmpty then .ok else .persisting) id latches r.conditions)

/-- CLEAR-ALARMS, command type 0x0B (R101). -/
def execClearAlarms (s : State) : Host.Outcome State Fault Refusal :=
  .next (carryOut 0x0B#8 (fixedLength 5) clearAlarmsAct s)

end Sys2Proof.Machine
end

