-- ==== Sys2Proof/Machine/Urgency.lean ====
section
/-! DEFINITION. Projection and the Urgency List (04_projection_and_the_urgency_list.md): hours, due time and band, the
seconds walk, and LIST. -/

namespace Sys2Proof.Machine

/-- The fill is at or above a threshold; an absent fill is not (R73). -/
def fillReaches (threshold : Nat) (fill : Option Nat) : Bool :=
  match fill with
  | some f => threshold ≤ f
  | none => false

/-- Hours to threshold and due time (R73). An absent fill with a valid rate, which no run reaches, counts as fill 0:
DESIGN CHOICE, unsafe only there, log entry 10. -/
def project (fill : Option Nat) (overfull : Bool) (rate : Nat) (rateValid : Bool) (threshold base : Nat) :
    Nat × Option Nat :=
  if fillReaches threshold fill || overfull then (0, some base)
  else if !rateValid || rate == 0 then (Config.noProjection, none)
  else
    let hours := min (((threshold - fill.getD 0) * 16 + rate - 1) / rate) 65534
    (hours, some (min (base + hours * 3600) Config.max32))

/-- The band function: band and projected flag (R74). Hours with no due time, which no run reaches, count as NONE:
DESIGN CHOICE, unsafe only there, log entry 10. -/
def bandOf (hours : Nat) (due : Option Nat) (uptime horizon : Nat) : Band × Bool :=
  if hours = 0 then (.due, false)
  else if hours = Config.noProjection then (.none, false)
  else
    match due with
    | none => (.none, false)
    | some d =>
      if d ≤ uptime then (.due, true)
      else if d ≤ uptime + horizon then (.soon, false)
      else (.later, false)

/-- Whether the band before and the band after raise a band offer (R75). -/
def bandOffer (before after : Band) : List Raised :=
  match after with
  | .due => if before = .due then [] else [.due]
  | .soon => if before = .later ∨ before = .none then [.soon] else []
  | .later => []
  | .none => []

/-- The band function applied to a record's stored hours and due time, and its offer (R74, R75). -/
def applyBand (uptime horizon : Nat) (r : BinRecord) : BinRecord × List Raised :=
  let b := bandOf r.hours r.due uptime horizon
  ({ r with band := b.1, projected := b.2 }, bandOffer r.band b.1)

/-- A projection made from the record with a base time, then the band function (R77, R79). -/
def reproject (threshold base uptime horizon : Nat) (r : BinRecord) : BinRecord × List Raised :=
  let p := project r.fill r.conditions.overfull r.rate r.rateValid threshold base
  applyBand uptime horizon { r with hours := p.1, due := p.2 }

/-! ## The seconds walk -/

/-- What the walk of second `uptime` does to a visited record with this due time (R81). -/
def walkRecord (uptime due : Nat) (r : BinRecord) : BinRecord × List Raised :=
  match r.band with
  | .none => (r, [])
  | .due => (r, [])
  | .soon => if due ≤ uptime then ({ r with band := .due, projected := true }, [.due]) else (r, [])
  | .later =>
    if due ≤ uptime then ({ r with band := .due, projected := true }, [.due])
    else ({ r with band := .soon }, [.soon])

/-- The entries the walk of second `uptime` visits, in list order (R81). -/
def walkVisited (uptime : Nat) (s : State) : List (Nat × Nat) :=
  s.urgencyList.takeWhile fun k => k.1 ≤ uptime + s.soonHorizon

/-- The walk's effect on each visited record (R81). -/
def walkMoves (uptime : Nat) (s : State) : List Move :=
  (walkVisited uptime s).filterMap fun k => (s.bin k.2).map fun r => (k.2, walkRecord uptime k.1 r)

/-- The seconds walk, and the Urgency List's next second counted as taken (R81, R82, R157). -/
def secondsWalk (s : State) : State :=
  let u := s.clock.walked + 1
  applyMoves u (walkMoves u s) (s.setClock { s.clock with walked := u })

/-- SECONDS_WALK: taken when a seconds event waits for the Urgency List (R81, R157); otherwise not taken, log entry 2. -/
def execSecondsWalk (s : State) : Host.Outcome State Fault Refusal :=
  .next (if s.clock.walked < s.clock.uptime then secondsWalk s else s)

/-! ## LIST -/

/-- A record matches LIST's masks and minimum band (R89). -/
def listMatches (profiles : BitVec 16) (districts : BitVec 32) (minimum : Nat) (r : BinRecord) : Bool :=
  profiles.getLsbD r.profile && districts.getLsbD r.district && r.band != .none && minimum ≤ r.band.code

/-- A LIST entry of a record (R90). -/
def listEntry (c : Clock) (due : Nat) (r : BinRecord) : ListEntry :=
  { identity := r.identity
    band := r.band
    projected := r.projected
    overfull := r.conditions.overfull
    fill := r.fill.getD 0
    hours := r.hours
    due := stamp c due
    standing := r.standing }

/-- Every entry of the Urgency List that matches, in list order (R89). -/
def listMatching (profiles : BitVec 16) (districts : BitVec 32) (minimum : Nat) (s : State) : List ListEntry :=
  s.urgencyList.filterMap fun k =>
    match s.bin k.2 with
    | none => none
    | some r => if listMatches profiles districts minimum r then some (listEntry s.clock k.1 r) else none

/-- LIST carried out (R88, R89). -/
def listAct (body : List Byte) (s : State) : State × Reply :=
  let maximum := byteAt body 0
  let minimum := byteAt body 7
  if !validMinimumBand minimum then (s, .refused .range)
  else
    let taken := clamp 1 32 maximum
    let found := listMatching (BitVec.ofNat 16 (nat16At body 1)) (BitVec.ofNat 32 (nat32At body 3)) minimum s
    (s, .listing (if taken = maximum then .ok else .clamped) (!s.clock.isSet) (taken < found.length) (found.take taken))

/-- LIST, command type 0x0A (R88 to R90). -/
def execList (s : State) : Host.Outcome State Fault Refusal := .next (carryOut 0x0A#8 (fixedLength 8) listAct s)

end Sys2Proof.Machine
end

