-- ==== Sys2Proof/Machine/BinTable.lean ====
section
/-! DEFINITION. The Bin Table's commands (01_the_bin_table.md): ENROL, AMEND, RETIRE, BAR, UNBAR, QUERY. -/

namespace Sys2Proof.Machine

/-! ## ENROL -/

/-- The record an accepted ENROL creates (R15). -/
def newRecord (identity : Identity) (profile : Fin 16) (district : Fin 32) (ackMode : AckMode)
    (expectation : Option (BitVec 4)) (uptime : Nat) (parameters : Profile) : BinRecord :=
  { identity := identity
    standing := .enrolled
    profile := profile
    district := district
    ackMode := ackMode
    expectation := expectation
    window := []
    fill := none
    rate := 0
    rateValid := false
    lastReading := none
    lastHeard := uptime
    hours := Config.noProjection
    due := none
    band := .none
    projected := false
    lastReported := none
    battery := none
    lastRssi := none
    lastAntenna := none
    conditions := {}
    latches := {}
    rebasePending := false
    owed := 0#8
    deadline := silenceDeadline uptime parameters
    estimated := 0
    missed := 0
    duplicates := 0
    emptied := 0
    lastEmptied := none
    enrolTime := uptime }

/-- The Stranger List entry of an identity (R108). -/
def State.stranger (s : State) (identity : Identity) : Option StrangerEntry :=
  s.strangers.entries.find? fun e => e.identity == identity

/-- The Stranger List without an identity; the others keep their order (R115, R116). -/
def State.dropStranger (s : State) (identity : Identity) : State :=
  s.setStrangers { s.strangers with entries := s.strangers.entries.filter fun e => e.identity != identity }

/-- The sequence expectation ENROL hands over (R16). -/
def State.inherited (s : State) (identity : Identity) : Option (BitVec 4) :=
  (s.stranger identity).map fun e => e.lastSeq + 1#4

/-- An accepted ENROL into a slot (R15, R16). -/
def enrolInto (slot : Nat) (identity : Identity) (profile : Fin 16) (district : Fin 32) (ackMode : AckMode)
    (s : State) : State :=
  (s.dropStranger identity).putBin slot
    (newRecord identity profile district ackMode (s.inherited identity) s.clock.uptime (s.profile profile))

/-- ENROL carried out (R13 to R16). -/
def enrolAct (body : List Byte) (s : State) : State × Reply :=
  let id := identityAt body 0
  if !validIdentity id then (s, .refusedIdentity .range id)
  else
    match index16 (byteAt body 4), index32 (byteAt body 5), readAckMode (byteAt body 6) with
    | some p, some d, some m =>
      if (s.find id).isSome then (s, .refusedIdentity .alreadyExists id)
      else
        match s.lowestVacant with
        | none => (s, .refusedIdentity .tableFull id)
        | some slot => (enrolInto slot id p d m s, .enrolled slot)
    | _, _, _ => (s, .refusedIdentity .range id)

/-- ENROL, command type 0x01. -/
def execEnrol (s : State) : Host.Outcome State Fault Refusal := .next (carryOut 0x01#8 (fixedLength 7) enrolAct s)

/-! ## The commands on a record -/

/-- The identity checks of the commands on a record, then the command (R13). -/
def onRecord (body : List Byte) (s : State) (act : Nat → BinRecord → State × Reply) : State × Reply :=
  let id := identityAt body 0
  if !validIdentity id then (s, .refusedIdentity .range id)
  else
    match s.find id with
    | none => (s, .refusedIdentity .noSuchBin id)
    | some (slot, r) => act slot r

/-- The two profiles measure depth differently (R18, R52). -/
def depthsDiffer (p q : Profile) : Bool := p.emptyDepth != q.emptyDepth || p.fullDepth != q.fullDepth

/-- The record with a new profile: rebase marking, then the recomputation unless it is BARRED (R18, R79). The base of a
record with no last reading time but OVERFULL present, which no run reaches, is 0: DESIGN CHOICE, unsafe only there, log
entry 10. -/
def changeProfile (old new : Profile) (uptime horizon : Nat) (profile : Fin 16) (r : BinRecord) :
    BinRecord × List Raised :=
  let r1 := { r with profile := profile, rebasePending := r.rebasePending || depthsDiffer old new }
  if r.standing = .barred then (r1, [])
  else reproject new.threshold (r.lastReading.getD 0) uptime horizon r1

/-- The record as AMEND leaves it, and what it raises (R17, R18). -/
def amendRecord (s : State) (profile : Option (Fin 16)) (district : Option (Fin 32)) (ackMode : Option AckMode)
    (r : BinRecord) : BinRecord × List Raised :=
  let r1 := { r with district := district.getD r.district, ackMode := ackMode.getD r.ackMode }
  match profile with
  | none => (r1, [])
  | some p =>
    if p = r.profile then (r1, [])
    else changeProfile (s.profile r.profile) (s.profile p) s.clock.uptime s.soonHorizon p r1

/-- A record replaced, then the offers the event raised about it settled (R119). -/
def replaceRecord (slot : Nat) (out : BinRecord × List Raised) (s : State) : State :=
  settleAll (offersOf s.clock s.clock.uptime slot out.1 out.2) (s.putBin slot out.1)

/-- AMEND carried out (R17, R18). -/
def amendAct (body : List Byte) (s : State) : State × Reply :=
  onRecord body s fun slot r =>
    let presence := body.getD 4 0
    match optionalField (presence.getLsbD 0) (index16 (byteAt body 5)),
      optionalField (presence.getLsbD 1) (index32 (byteAt body 6)),
      optionalField (presence.getLsbD 2) (readAckMode (byteAt body 7)) with
    | some p, some d, some m => (replaceRecord slot (amendRecord s p d m r) s, .done r.identity)
    | _, _, _ => (s, .refusedIdentity .range r.identity)

/-- AMEND, command type 0x02. -/
def execAmend (s : State) : Host.Outcome State Fault Refusal := .next (carryOut 0x02#8 (fixedLength 8) amendAct s)

/-- A record retired: its entries purged, its copies detached, its slot vacated (R20). -/
def retireSlot (slot : Nat) (s : State) : State :=
  let t := detachSlot slot (purge slot s)
  t.setBins (tableRemove t.bins slot)

/-- RETIRE carried out (R20). -/
def retireAct (body : List Byte) (s : State) : State × Reply :=
  onRecord body s fun slot r => (retireSlot slot s, .retired r.identity slot (s.entriesOf slot))

/-- RETIRE, command type 0x03. -/
def execRetire (s : State) : Host.Outcome State Fault Refusal := .next (carryOut 0x03#8 (fixedLength 4) retireAct s)

/-- BAR carried out; a BARRED record is left as it is (R21). -/
def barAct (body : List Byte) (s : State) : State × Reply :=
  onRecord body s fun slot r =>
    if r.standing = .barred then (s, .barred r.identity 0)
    else
      ((purge slot s).putBin slot { r with standing := .barred, band := .none },
        .barred r.identity (s.entriesOf slot))

/-- BAR, command type 0x04. -/
def execBar (s : State) : Host.Outcome State Fault Refusal := .next (carryOut 0x04#8 (fixedLength 4) barAct s)

/-- A BARRED record as UNBAR leaves it, and what it raises (R22, R80). -/
def unbarRecord (parameters : Profile) (uptime horizon : Nat) (r : BinRecord) : BinRecord × List Raised :=
  applyBand uptime horizon
    { r with
      standing := if r.fill.isSome then .active else .enrolled
      lastHeard := uptime
      conditions := r.conditions.put .lapse false
      deadline := silenceDeadline uptime parameters }

/-- UNBAR carried out; a record that is not BARRED is left as it is (R22). -/
def unbarAct (body : List Byte) (s : State) : State × Reply :=
  onRecord body s fun slot r =>
    if r.standing = .barred then
      (replaceRecord slot (unbarRecord (s.profile r.profile) s.clock.uptime s.soonHorizon r) s, .done r.identity)
    else (s, .done r.identity)

/-- UNBAR, command type 0x05. -/
def execUnbar (s : State) : Host.Outcome State Fault Refusal := .next (carryOut 0x05#8 (fixedLength 4) unbarAct s)

/-- QUERY carried out (R23). -/
def queryAct (body : List Byte) (s : State) : State × Reply :=
  onRecord body s fun slot r =>
    (s, .record (!s.clock.isSet) (summaryOf s.clock slot r) (detailOf s.clock r) r.window)

/-- QUERY, command type 0x06. -/
def execQuery (s : State) : Host.Outcome State Fault Refusal := .next (carryOut 0x06#8 (fixedLength 4) queryAct s)

end Sys2Proof.Machine
end

