-- ==== Sys2Proof/Machine/StrangerList.lean ====
section
/-! DEFINITION. The Stranger List (06_the_stranger_list.md): a capture from an unknown identity, aging, STRANGERS and
DISMISS. -/

namespace Sys2Proof.Machine

/-- What the Stranger List is handed of a good capture (R33). -/
structure Hearing where
  identity : Identity
  join : Bool
  seq : BitVec 4
  rssi : Int
  antenna : Nat
deriving DecidableEq, Repr

/-- The entry an append makes (R108). -/
def newStranger (uptime : Nat) (h : Hearing) : StrangerEntry :=
  { identity := h.identity
    firstHeard := uptime
    lastHeard := uptime
    heardCount := 1
    lastSeq := h.seq
    bestRssi := h.rssi
    bestAntenna := h.antenna
    joined := h.join }

/-- An entry heard again, updated in place (R109). -/
def hearAgain (uptime : Nat) (h : Hearing) (e : StrangerEntry) : StrangerEntry :=
  { e with
    lastHeard := uptime
    heardCount := if h.seq = e.lastSeq then e.heardCount else raise8 e.heardCount
    lastSeq := h.seq
    bestRssi := if e.bestRssi < h.rssi then h.rssi else e.bestRssi
    bestAntenna := if e.bestRssi < h.rssi then h.antenna else e.bestAntenna
    joined := e.joined || h.join }

/-- The STRANGER offer of an append, with the stranger count after it (R110). -/
def strangerOffer (c : Clock) (h : Hearing) (count : Nat) : Offer :=
  { report := reportAt c c.uptime (.stranger h.identity h.join h.seq h.rssi h.antenna count)
    concerns := none }

/-- A new entry appended, and its STRANGER offer settled (R110). -/
def appendStranger (h : Hearing) (s : State) : State :=
  settle
    (s.setStrangers { s.strangers with entries := s.strangers.entries ++ [newStranger s.clock.uptime h] })
    (strangerOffer s.clock h (s.strangers.entries.length + 1))

/-- A capture from an unknown identity at the Stranger List: updated, appended or dropped (R109 to R111). -/
def hearStranger (h : Hearing) (s : State) : State :=
  if (s.stranger h.identity).isSome then
    s.setStrangers
      { s.strangers with
        entries := s.strangers.entries.map fun e =>
          if e.identity = h.identity then hearAgain s.clock.uptime h e else e }
  else if s.strangers.entries.length < Config.strangerPlaces then appendStranger h s
  else s.countIntake fun k => { k with strangerOverflow := raise32 k.strangerOverflow 1 }

/-- An aging of second `uptime`: every entry unheard for the stranger age is removed (R112). -/
def ageEntries (uptime age : Nat) (entries : List StrangerEntry) : List StrangerEntry :=
  entries.filter fun e => uptime < e.lastHeard + age

/-- The stranger aging, and the Stranger List's next second counted as taken (R112, R157). -/
def strangerAging (s : State) : State :=
  let u := s.clock.aged + 1
  (s.setClock { s.clock with aged := u }).setStrangers
    { s.strangers with entries := ageEntries u s.strangers.age s.strangers.entries }

/-- STRANGER_AGING: taken when a seconds event waits for the Stranger List (R112, R157); otherwise not taken, log entry
2. -/
def execStrangerAging (s : State) : Host.Outcome State Fault Refusal :=
  .next (if s.clock.aged < s.clock.uptime then strangerAging s else s)

/-- An entry with its times converted for a message (R114, R158). -/
def stampEntry (c : Clock) (e : StrangerEntry) : StrangerEntry :=
  { e with firstHeard := stamp c e.firstHeard, lastHeard := stamp c e.lastHeard }

/-- STRANGERS carried out (R114). -/
def strangersAct (_body : List Byte) (s : State) : State × Reply :=
  (s, .strangers (!s.clock.isSet) (s.strangers.entries.map (stampEntry s.clock)))

/-- STRANGERS, command type 0x0C. -/
def execStrangers (s : State) : Host.Outcome State Fault Refusal :=
  .next (carryOut 0x0C#8 (fixedLength 0) strangersAct s)

/-- DISMISS carried out (R115). -/
def dismissAct (body : List Byte) (s : State) : State × Reply :=
  let id := identityAt body 0
  if !validIdentity id then (s, .refusedIdentity .range id)
  else
    match s.stranger id with
    | none => (s, .refusedIdentity .noSuchBin id)
    | some e => (s.dropStranger id, .dismissed (!s.clock.isSet) (stampEntry s.clock e))

/-- DISMISS, command type 0x0D. -/
def execDismiss (s : State) : Host.Outcome State Fault Refusal :=
  .next (carryOut 0x0D#8 (fixedLength 4) dismissAct s)

end Sys2Proof.Machine
end

