-- ==== Sys2Proof/Machine/CaptureIntake.lean ====
section
/-! DEFINITION. Capture Intake (02_capture_intake.md): classification and admission of captures, answers, INJECT, and
the field link transmitter. -/

namespace Sys2Proof.Machine

/-- The content is a join. -/
def isJoin : Content → Bool
  | .join => true
  | .reading _ _ _ _ => false

/-- The class of the sequence window (R35). -/
def windowClass (expectation : Option (BitVec 4)) (join : Bool) (seq : BitVec 4) : WindowClass :=
  match expectation with
  | none => .admissible 0
  | some e =>
    let d := (seq - e).toNat
    if d = 15 then .duplicate
    else if join then .admissible 0
    else if d ≤ 7 then .admissible d
    else .stale

/-- An answer placed on the Answer Queue; a full queue loses its oldest (R43). -/
def placeAnswer (a : Answer) (s : State) : State :=
  if s.intake.answers.length < Config.answerPlaces then
    s.setIntake { s.intake with answers := s.intake.answers ++ [a] }
  else
    s.setIntake
      { s.intake with
        answers := s.intake.answers.drop 1 ++ [a]
        counters := { s.intake.counters with answersLost := raise32 s.intake.counters.answersLost 1 } }

/-- An answer is made for a FIELD capture of an ANSWERED bin only (R42). -/
def makeAnswer (source : Source) (r : BinRecord) (seq : BitVec 4) (v : Verdict) (s : State) : State :=
  if source = .field ∧ r.ackMode = .answered then placeAnswer { identity := r.identity, seq := seq, verdict := v } s
  else s

/-- The counter a failed check raises (R31). -/
def countMalformed (why : Malformed) (k : IntakeCounters) : IntakeCounters :=
  match why with
  | .long => { k with long := raise32 k.long 1 }
  | .short => { k with short := raise32 k.short 1 }
  | .check => { k with check := raise32 k.check 1 }
  | .kind => { k with kind := raise32 k.kind 1 }

/-- The MALFORMED offer of a failed capture (R31). -/
def malformedOffer (c : Clock) (cap : Capture) (why : Malformed) : Offer :=
  { report := reportAt c c.uptime
      (.malformed why cap.source cap.frame.length (frameIdentity cap.frame) cap.heard)
    concerns := none }

/-- A capture that fails a check (R31). -/
def takeMalformed (cap : Capture) (why : Malformed) (s : State) : State :=
  settle (s.countIntake (countMalformed why)) (malformedOffer s.clock cap why)

/-- The RSSI of a capture; a good frame always comes with one (R108), so the 0 of none is not reached: log entry 10. -/
def rssiOf (cap : Capture) : Int := ((cap.heard.map Prod.fst).getD 0)

/-- The antenna of a capture; a good frame always comes with one (R108), so the 0 of none is not reached: log entry
10. -/
def antennaOf (cap : Capture) : Nat := ((cap.heard.map Prod.snd).getD 0)

/-- A stranger's capture handed to the Stranger List (R33). -/
def takeStranger (cap : Capture) (g : GoodFrame) (s : State) : State :=
  hearStranger
    { identity := g.identity
      join := isJoin g.content
      seq := g.seq
      rssi := rssiOf cap
      antenna := antennaOf cap }
    (s.countIntake fun k => { k with strangersHeard := raise32 k.strangersHeard 1 })

/-- The capture of a BARRED record, refused (R34). -/
def takeRefused (cap : Capture) (g : GoodFrame) (r : BinRecord) (s : State) : State :=
  makeAnswer cap.source r g.seq .refuse (s.countIntake fun k => { k with refused := raise32 k.refused 1 })

/-- A duplicate, settled in its event (R36). -/
def takeDuplicate (cap : Capture) (g : GoodFrame) (slot : Nat) (r : BinRecord) (s : State) : State :=
  makeAnswer cap.source r g.seq .accept
    ((s.putBin slot { r with duplicates := raise16 r.duplicates 1 }).countIntake fun k =>
      { k with duplicates := raise32 k.duplicates 1 })

/-- A stale reading, settled in its event (R36). -/
def takeStale (cap : Capture) (g : GoodFrame) (slot : Nat) (r : BinRecord) (s : State) : State :=
  makeAnswer cap.source r g.seq .accept
    ((s.putBin slot { r with duplicates := raise16 r.duplicates 1 }).countIntake fun k =>
      { k with stale := raise32 k.stale 1 })

/-- The Intake Queue entry of an admitted capture (R40). -/
def entryOf (cap : Capture) (g : GoodFrame) (slot : Nat) : IntakeEntry :=
  { slot := slot
    content := g.content
    rssi := rssiOf cap
    antenna := antennaOf cap
    arrival := cap.arrival }

/-- The counters an appended capture raises (R39). -/
def countAccepted (join : Bool) (gap : Nat) (k : IntakeCounters) : IntakeCounters :=
  { k with
    accepted := raise32 k.accepted 1
    joins := if join then raise32 k.joins 1 else k.joins
    gaps := raise32 k.gaps gap }

/-- An admissible capture appended to the Intake Queue (R38 to R40). -/
def takeAccepted (cap : Capture) (g : GoodFrame) (gap slot : Nat) (r : BinRecord) (s : State) : State :=
  makeAnswer cap.source r g.seq .accept
    ((s.putBin slot { r with expectation := some (g.seq + 1#4), missed := raise16 r.missed gap }).setIntake
      { s.intake with
        queue := s.intake.queue ++ [entryOf cap g slot]
        counters := countAccepted (isJoin g.content) gap s.intake.counters })

/-- An admissible capture held (R39). -/
def takeHeld (cap : Capture) (g : GoodFrame) (r : BinRecord) (s : State) : State :=
  makeAnswer cap.source r g.seq .hold (s.countIntake fun k => { k with held := raise32 k.held 1 })

/-- An admissible capture of an UNANSWERED bin that finds the queue full (R39). -/
def takeOverrun (s : State) : State := s.countIntake fun k => { k with overrun := raise32 k.overrun 1 }

/-- Admission of an admissible capture (R39). -/
def admitCapture (cap : Capture) (g : GoodFrame) (gap slot : Nat) (r : BinRecord) (s : State) : State × CaptureOutcome :=
  match cap.source, r.ackMode with
  | .field, .answered =>
    if s.intake.holdThreshold ≤ s.intake.queue.length ∨ Config.intakePlaces ≤ s.intake.queue.length then
      (takeHeld cap g r s, .held)
    else (takeAccepted cap g gap slot r s, .accepted)
  | .field, .unanswered =>
    if Config.intakePlaces ≤ s.intake.queue.length then (takeOverrun s, .overrun)
    else (takeAccepted cap g gap slot r s, .accepted)
  | .relayed, _ =>
    if Config.intakePlaces ≤ s.intake.queue.length then (takeHeld cap g r s, .held)
    else (takeAccepted cap g gap slot r s, .accepted)

/-- A good capture of an enrolled bin (R34, R35). -/
def classify (cap : Capture) (g : GoodFrame) (slot : Nat) (r : BinRecord) (s : State) : State × CaptureOutcome :=
  if r.standing = .barred then (takeRefused cap g r s, .refused)
  else
    match windowClass r.expectation (isJoin g.content) g.seq with
    | .duplicate => (takeDuplicate cap g slot r s, .duplicate)
    | .stale => (takeStale cap g slot r s, .stale)
    | .admissible gap => admitCapture cap g gap slot r s

/-- A capture checked, classified and admitted, after its source counter (R29 to R39). -/
def takeCapture (cap : Capture) (s : State) : State × CaptureOutcome :=
  match checkFrame s.intake.captureLimit cap.frame with
  | .failed why => (takeMalformed cap why s, .malformed why)
  | .good g =>
    match s.find g.identity with
    | none => (takeStranger cap g s, .stranger)
    | some (slot, r) => classify cap g slot r s

/-- A field link frame of type capture taken (R27). -/
def fieldCaptureTaken (body : List Byte) (s : State) : State :=
  (takeCapture (fieldCapture s.clock.uptime body)
    (s.countIntake fun k => { k with capturesField := raise32 k.capturesField 1 })).1

/-- The outcome concerns an enrolled bin (R28). -/
def concernsBin : CaptureOutcome → Bool
  | .accepted => true
  | .duplicate => true
  | .stale => true
  | .held => true
  | .refused => true
  | .stranger => false
  | .malformed _ => false
  | .overrun => false

/-- The slot and sequence expectation an INJECT reply carries, as the event leaves them (R28). -/
def injectedBin (frame : List Byte) (outcome : CaptureOutcome) (s : State) : Option (Nat × Option (BitVec 4)) :=
  if concernsBin outcome then (s.find (identityAt frame 0)).map fun p => (p.1, p.2.expectation) else none

/-- INJECT carried out (R28). -/
def injectAct (body : List Byte) (s : State) : State × Reply :=
  let cap := relayedCapture s.clock.uptime body
  let out := takeCapture cap (s.countIntake fun k => { k with capturesRelayed := raise32 k.capturesRelayed 1 })
  (out.1, .injected out.2 (frameIdentity cap.frame) (injectedBin cap.frame out.2 out.1))

/-- INJECT, command type 0x07. -/
def execInject (s : State) : Host.Outcome State Fault Refusal := .next (carryOut 0x07#8 injectLength injectAct s)

/-- The oldest answer leaves the queue and its frame starts, unless RESET_N holds the transmitter (R43, R173). -/
def answerBegin (s : State) : State :=
  match s.link.resetLow, s.intake.transmitter, s.intake.answers with
  | false, .idle, a :: rest =>
    s.setIntake { s.intake with answers := rest, transmitter := .sending a a.frame }
  | _, _, _ => s

/-- ANSWER_TRANSMISSION_BEGIN: taken at an idle field link transmitter with an answer queued (R43); otherwise not taken,
log entry 2. -/
def execAnswerTransmissionBegin (s : State) : Host.Outcome State Fault Refusal := .next (answerBegin s)

/-- The last byte of an answer frame has left (R43). -/
def answerCompletion (s : State) : State := s.setIntake { s.intake with transmitter := .idle }

/-- ANSWER_TRANSMISSION_COMPLETION (R43); at an idle transmitter nothing changes, log entry 2. -/
def execAnswerTransmissionCompletion (s : State) : Host.Outcome State Fault Refusal := .next (answerCompletion s)

end Sys2Proof.Machine
end

