-- ==== Sys2Proof/Machine/FillEstimation.lean ====
section
/-! DEFINITION. The Profile Table's commands and the estimation of one Intake Queue entry (03_fill_estimation.md). -/

namespace Sys2Proof.Machine

/-! ## Profiles -/

/-- The nine parameters as a PROFILE-SET body gives them, the median filter already read (R182). -/
def readProfile (body : List Byte) (median : Bool) : Profile :=
  { emptyDepth := nat16At body 1
    fullDepth := nat16At body 3
    threshold := nat16At body 5
    fillWeight := byteAt body 7
    rateWeight := byteAt body 8
    median := median
    emptiedDrop := nat16At body 10
    reportStep := nat16At body 12
    silenceLimit := nat16At body 14 }

/-- Every parameter but the full depth brought to its range (R51, steps 3 and 5). -/
def clampProfile (p : Profile) : Profile :=
  { p with
    emptyDepth := clamp 100 4000 p.emptyDepth
    threshold := clamp 100 1000 p.threshold
    fillWeight := clamp 1 16 p.fillWeight
    rateWeight := clamp 1 16 p.rateWeight
    emptiedDrop := clamp 50 1000 p.emptiedDrop
    reportStep := clamp 10 500 p.reportStep
    silenceLimit := clamp 10 10080 p.silenceLimit }

/-- A depth change marks rebase pending on every record of the profile (R52). -/
def markRebase (profile : Fin 16) (bins : SlotTable BinRecord) : SlotTable BinRecord :=
  bins.map fun p => (p.1, if p.2.profile = profile then { p.2 with rebasePending := true } else p.2)

/-- A profile stored (R51, R52). -/
def storeProfile (i : Fin 16) (p : Profile) (s : State) : State :=
  let t := s.setProfiles (s.profiles.set i p)
  if depthsDiffer (s.profile i) p then t.setBins (markRebase i s.bins) else t

/-- PROFILE-SET carried out, its checks in the order of R51. -/
def profileSetAct (body : List Byte) (s : State) : State × Reply :=
  match index16 (byteAt body 0), readYesNo (byteAt body 9) with
  | some i, some median =>
    let given := readProfile body median
    let stored := clampProfile given
    if stored.emptyDepth < stored.fullDepth + 50 then (s, .refusedIndex .range (body.getD 0 0))
    else (storeProfile i stored s, .profile (if stored = given then .ok else .clamped) i stored)
  | _, _ => (s, .refusedIndex .range (body.getD 0 0))

/-- PROFILE-SET, command type 0x08. -/
def execProfileSet (s : State) : Host.Outcome State Fault Refusal :=
  .next (carryOut 0x08#8 (fixedLength 16) profileSetAct s)

/-- PROFILE-GET carried out (R54). -/
def profileGetAct (body : List Byte) (s : State) : State × Reply :=
  match index16 (byteAt body 0) with
  | some i => (s, .profile .ok i (s.profile i))
  | none => (s, .refusedIndex .range (body.getD 0 0))

/-- PROFILE-GET, command type 0x09. -/
def execProfileGet (s : State) : Host.Outcome State Fault Refusal :=
  .next (carryOut 0x09#8 (fixedLength 1) profileGetAct s)

/-! ## The stages of an estimation -/

/-- The time t of an estimation (R56). -/
def estimationTime (r : BinRecord) (e : IntakeEntry) : Nat :=
  match r.lastReading with
  | some last => max e.arrival last
  | none => e.arrival

/-- The entry is a reading whose distance is not 0 (R58). -/
def nonBlind : Content → Bool
  | .join => false
  | .reading distance _ _ _ => distance != 0

/-- The entry is a reading of distance 0 (R60). -/
def isBlind : Content → Bool
  | .join => false
  | .reading distance _ _ _ => distance == 0

/-- Stage 1, heard (R57, R58). -/
def stageHeard (p : Profile) (t : Nat) (e : IntakeEntry) (r : BinRecord) : BinRecord :=
  { r with
    lastHeard := t
    lastRssi := some e.rssi
    lastAntenna := some e.antenna
    deadline := silenceDeadline t p
    conditions := r.conditions.put .lapse false
    estimated := raise16 r.estimated 1
    standing := if r.fill.isSome || nonBlind e.content then .active else .enrolled }

/-- Stage 2, flags: battery, then LID, then TILT (R59). -/
def stageFlags (lid tilt : Bool) (battery : Nat) (r : BinRecord) : BinRecord × List Raised :=
  let x := judgeCondition .lid lid { r with battery := some (min battery 100) }
  let y := judgeCondition .tilt tilt x.1
  (y.1, x.2 ++ y.2)

/-- The raw fill of a distance (R61). -/
def rawFill (p : Profile) (distance : Nat) : Nat :=
  (p.emptyDepth - clamp p.fullDepth p.emptyDepth distance) * 1000 / (p.emptyDepth - p.fullDepth)

/-- The estimate restarted from one raw fill (R63, R64). -/
def restartEstimate (raw t : Nat) (r : BinRecord) : BinRecord :=
  { r with fill := some raw, window := [raw], rate := 0, rateValid := false, lastReading := some t }

/-- Stage 5, first reading or rebase (R63). -/
def stageFirst (raw t : Nat) (r : BinRecord) : BinRecord := { restartEstimate raw t r with rebasePending := false }

/-- Stage 6, collection (R64). -/
def stageCollection (raw t : Nat) (r : BinRecord) : BinRecord :=
  { restartEstimate raw t r with
    emptied := raise16 r.emptied 1
    lastEmptied := some t
    lastReported := some raw }

/-- A sixteenth rounded to the nearest whole number, ties away from zero (R66). -/
def sixteenth (s : Int) : Int := if 0 ≤ s then (s + 8) / 16 else -((-s + 8) / 16)

/-- A value moved toward a target by so many sixteenths of the difference (R66, R68). -/
def blend (old target weight : Nat) : Nat :=
  ((old : Int) + sixteenth (((target : Int) - (old : Int)) * (weight : Int))).toNat

/-- The middle of three values (R65). -/
def median3 (a b c : Nat) : Nat := max (min a b) (min (max a b) c)

/-- The candidate of the window after the push, newest first (R65). -/
def candidate (median : Bool) : List Nat → Nat
  | [] => 0
  | [a] => a
  | [a, b] => if median then min a b else a
  | a :: b :: c :: _ => if median then median3 a b c else a

/-- The raw fill pushed onto the window, which keeps three (R65). -/
def pushWindow (raw : Nat) (w : List Nat) : List Nat := (raw :: w).take 3

/-- The instantaneous rate sample (R67). -/
def rateSample (old new dt : Nat) : Nat :=
  min (max (Int.tdiv (((new : Int) - (old : Int)) * 57600) (max dt 60 : Nat)) 0).toNat 16000

/-- Stage 8, rate, on a record whose fill stage 7 has moved from `old` (R67, R68). -/
def stageRate (p : Profile) (t old new : Nat) (r : BinRecord) : BinRecord :=
  let dt := t - r.lastReading.getD 0
  if 604800 < dt then { r with lastReading := some t }
  else
    let sample := rateSample old new dt
    { r with
      rate := if r.rateValid then blend r.rate sample p.rateWeight else sample
      rateValid := true
      lastReading := some t }

/-- Stages 7 and 8, smoothing and rate (R65 to R68). -/
def stageSmoothing (p : Profile) (t raw old : Nat) (r : BinRecord) : BinRecord :=
  let w := pushWindow raw r.window
  let new := blend old (candidate p.median w) p.fillWeight
  stageRate p t old new { r with window := w, fill := some new }

/-- Stages 5 to 8: which one takes a non-blind reading, and the EMPTIED offer of a collection (R63 to R68). -/
def stageMeasure (p : Profile) (t raw : Nat) (r : BinRecord) : BinRecord × List Raised :=
  match r.fill with
  | none => (stageFirst raw t r, [])
  | some old =>
    if r.rebasePending then (stageFirst raw t r, [])
    else if raw + p.emptiedDrop ≤ old then (stageCollection raw t r, [.emptied old])
    else (stageSmoothing p t raw old r, [])

/-- The distance between two fills. -/
def apart (a b : Nat) : Nat := (a - b) + (b - a)

/-- The fill has moved a report step from the last reported one, or none was reported (R70). -/
def reportsFill (p : Profile) (r : BinRecord) : Bool :=
  match r.fill, r.lastReported with
  | some f, some last => p.reportStep ≤ apart f last
  | some _, none => true
  | none, _ => false

/-- Stage 11, fill report, unless stage 6 raised EMPTIED (R70). -/
def stageReport (p : Profile) (collected : Bool) (r : BinRecord) : BinRecord × List Raised :=
  if !collected && reportsFill p r then ({ r with lastReported := r.fill }, [.fill]) else (r, [])

/-- Stages 4 to 11 of a non-blind reading; what they raise stands in the order of R71. -/
def stageNonBlind (p : Profile) (t distance uptime horizon : Nat) (r : BinRecord) : BinRecord × List Raised :=
  let full := judgeCondition .overfull (distance < p.fullDepth) r
  let measured := stageMeasure p t (rawFill p distance) full.1
  let banded := reproject p.threshold t uptime horizon measured.1
  let reported := stageReport p (!measured.2.isEmpty) banded.1
  (reported.1, full.2 ++ measured.2 ++ reported.2 ++ banded.2)

/-- The eleven stages: the record as the estimation leaves it and what it raises, in the order of R71. -/
def estimateRecord (p : Profile) (e : IntakeEntry) (uptime horizon : Nat) (r : BinRecord) : BinRecord × List Raised :=
  let t := estimationTime r e
  let r1 := stageHeard p t e r
  match e.content with
  | .join => (r1, [])
  | .reading distance lid tilt battery =>
    let flagged := stageFlags lid tilt battery r1
    if distance = 0 then flagged
    else
      let out := stageNonBlind p t distance uptime horizon flagged.1
      (out.1, flagged.2 ++ out.2)

/-- The intake counter "blind" after an estimation of this content (R60). -/
def countBlind (content : Content) (k : IntakeCounters) : IntakeCounters :=
  if isBlind content then { k with blind := raise32 k.blind 1 } else k

/-- An estimation of the oldest entry (R55). An entry whose slot is vacant or BARRED, which no run reaches (R41), is
removed and has no other effect: DESIGN CHOICE, unsafe only there, log entry 10. -/
def estimation (s : State) : State :=
  match s.intake.queue with
  | [] => s
  | e :: rest =>
    let s1 := s.setIntake { s.intake with queue := rest }
    match s.bin e.slot with
    | none => s1
    | some r =>
      if r.standing = .barred then s1
      else
        replaceRecord e.slot (estimateRecord (s.profile r.profile) e s.clock.uptime s.soonHorizon r)
          (s1.countIntake (countBlind e.content))

/-- ESTIMATION: taken while the Intake Queue holds an entry (R55); otherwise not taken, log entry 2. -/
def execEstimation (s : State) : Host.Outcome State Fault Refusal := .next (estimation s)

end Sys2Proof.Machine
end

