-- ==== Sys2Proof/Machine/PlannerLink.lean ====
section
/-! DEFINITION. The Planner Link (10_planner_link.md): reception on both links, the Command Queue's arrivals, STATUS,
CONFIG, COUNTERS, RESTART, unknown commands, and the resets. -/

namespace Sys2Proof.Machine

/-! ## Reception -/

/-- A receiver of the field link goes on with these bytes held (R162). -/
def State.setFieldHeld (s : State) (held : List Byte) : State := s.setLink { s.link with fieldHeld := held }

/-- The receiver of the planner link goes on with these bytes held (R162). -/
def State.setPlannerHeld (s : State) (held : List Byte) : State := s.setLink { s.link with plannerHeld := held }

/-- The link counters changed. -/
def State.countLink (s : State) (f : LinkCounters → LinkCounters) : State :=
  s.setLink { s.link with counters := f s.link.counters }

/-- A frame that arrived on the field link: a capture, or discarded and counted (R163). -/
def fieldArrival (type : Byte) (body : List Byte) (s : State) : State :=
  if type = captureType then fieldCaptureTaken body s
  else s.countLink fun k => { k with unknownType := raise32 k.unknownType 1 }

/-- What the field link receiver finds in the bytes it holds and sees, and its event (R162, R163). -/
def fieldFound (f : Finding) (s : State) : State :=
  match f with
  | .collecting held => s.setFieldHeld held
  | .arrived type _ body rest => fieldArrival type body (s.setFieldHeld rest)
  | .bad rest => (s.setFieldHeld rest).countLink fun k => { k with fieldBad := raise32 k.fieldBad 1 }
  | .overlong rest => (s.setFieldHeld rest).countLink fun k => { k with fieldOverlong := raise32 k.fieldOverlong 1 }

/-- The Command Queue takes a command as its newest entry, or counts it "commands overflow" (R164). -/
def commandArrives (type tag : Byte) (body : List Byte) (s : State) : State :=
  if s.link.commands.length < Config.commandPlaces then
    s.setLink
      { s.link with
        commands := s.link.commands ++ [{ type := type, tag := tag, body := body, condition := .held }] }
  else s.countLink fun k => { k with commandsOverflow := raise32 k.commandsOverflow 1 }

/-- What the planner link receiver finds in the bytes it holds and sees, and its event (R162, R164). -/
def plannerFound (f : Finding) (s : State) : State :=
  match f with
  | .collecting held => s.setPlannerHeld held
  | .arrived type tag body rest => commandArrives type tag body (s.setPlannerHeld rest)
  | .bad rest => (s.setPlannerHeld rest).countLink fun k => { k with plannerBad := raise32 k.plannerBad 1 }
  | .overlong rest =>
    (s.setPlannerHeld rest).countLink fun k => { k with plannerOverlong := raise32 k.plannerOverlong 1 }

/-- The bytes a link's receiver holds (R162). -/
def State.heldBytes (s : State) : Link → List Byte
  | .planner => s.link.plannerHeld
  | .field => s.link.fieldHeld

/-- A link's receiver sees bytes: it takes the first event they make with the bytes it held; while RESET_N is low it
passes over them (R162, R173). The event found is taken whichever row carried the bytes: DESIGN CHOICE, safe, log entry
6. -/
def receive (l : Link) (bytes : List Byte) (s : State) : State :=
  if s.link.resetLow then s
  else
    match l with
    | .planner => plannerFound (findFrame (s.link.plannerHeld ++ bytes)) s
    | .field => fieldFound (findFrame (s.link.fieldHeld ++ bytes)) s

/-- CAPTURE: bytes on the field link that bring a frame of type capture (R27, R162). -/
def execCapture (bytes : List Byte) (s : State) : Host.Outcome State Fault Refusal := .next (receive .field bytes s)

/-- UNKNOWN_TYPE: bytes on the field link that bring a frame of another type (R163). -/
def execUnknownType (bytes : List Byte) (s : State) : Host.Outcome State Fault Refusal :=
  .next (receive .field bytes s)

/-- FRAMES_BAD: bytes on either link that bring a frame whose CRC fails (R162). -/
def execFramesBad (l : Link) (bytes : List Byte) (s : State) : Host.Outcome State Fault Refusal :=
  .next (receive l bytes s)

/-- FRAMES_OVERLONG: bytes on either link that bring a length outside 2 to 600 (R162). -/
def execFramesOverlong (l : Link) (bytes : List Byte) (s : State) : Host.Outcome State Fault Refusal :=
  .next (receive l bytes s)

/-- COMMAND_ARRIVAL: bytes on the planner link that bring a frame (R164). -/
def execCommandArrival (bytes : List Byte) (s : State) : Host.Outcome State Fault Refusal :=
  .next (receive .planner bytes s)

/-! ## The Planner Link's own commands -/

/-- The configuration items as they stand (R169). -/
def State.items (s : State) : ConfigItems :=
  { holdThreshold := s.intake.holdThreshold
    captureLimit := s.intake.captureLimit
    soonHorizon := s.soonHorizon
    strangerAge := s.strangers.age
    arbitration := s.reports.arbitration }

/-- What STATUS reports of a channel (R169). -/
def State.channelStatus (s : State) (c : Fin 8) : ChannelStatus :=
  { enabled := (s.channel c).enabled
    credit := (s.channel c).credit
    length := (s.channel c).queue.length }

/-- The items of a STATUS reply (R169). -/
def State.statusItems (s : State) : StatusItems :=
  { uptime := s.clock.uptime
    isSet := s.clock.isSet
    offset := s.clock.offset
    lastReset := s.link.lastReset
    occupied := s.occupied
    strangers := s.strangers.entries.length
    intakeLength := s.intake.queue.length
    commandLength := s.link.commands.length
    poolFree := s.poolFree
    channels := allChannels.map s.channelStatus
    sweepState := s.sweep.state
    cursor := s.sweep.cursor
    lastEnd := s.sweep.lastEnd
    items := s.items }

/-- STATUS carried out (R169). -/
def statusAct (_body : List Byte) (s : State) : State × Reply := (s, .status s.statusItems)

/-- STATUS, command type 0x13. -/
def execStatus (s : State) : Host.Outcome State Fault Refusal := .next (carryOut 0x13#8 (fixedLength 0) statusAct s)

/-- The quantities of a CONFIG body as given (R182), with the arbitration mode already read. -/
def readItems (body : List Byte) (mode : Arbitration) : ConfigItems :=
  { holdThreshold := byteAt body 0
    captureLimit := byteAt body 1
    soonHorizon := nat32At body 2
    strangerAge := nat32At body 6
    arbitration := mode }

/-- The quantities brought to their ranges (R170). -/
def clampItems (i : ConfigItems) : ConfigItems :=
  { holdThreshold := clamp 1 64 i.holdThreshold
    captureLimit := clamp 10 64 i.captureLimit
    soonHorizon := clamp 3600 259200 i.soonHorizon
    strangerAge := clamp 600 604800 i.strangerAge
    arbitration := i.arbitration }

/-- The five items stored, each in its owning block (R170). -/
def storeItems (i : ConfigItems) (s : State) : State :=
  (((s.setIntake { s.intake with holdThreshold := i.holdThreshold, captureLimit := i.captureLimit }).setSoonHorizon
    i.soonHorizon).setStrangers { s.strangers with age := i.strangerAge }).setReports
    { s.reports with arbitration := i.arbitration }

/-- CONFIG carried out (R170). -/
def configAct (body : List Byte) (s : State) : State × Reply :=
  match readArbitration (byteAt body 10) with
  | none => (s, .refused .range)
  | some mode =>
    let given := readItems body mode
    let stored := clampItems given
    (storeItems stored s, .config (if stored = given then .ok else .clamped) stored)

/-- CONFIG, command type 0x14. -/
def execConfig (s : State) : Host.Outcome State Fault Refusal := .next (carryOut 0x14#8 (fixedLength 11) configAct s)

/-- The nineteen intake counters in the order of R44. -/
def IntakeCounters.values (k : IntakeCounters) : List Nat :=
  [k.capturesField, k.capturesRelayed, k.accepted, k.joins, k.duplicates, k.stale, k.gaps, k.held, k.overrun, k.refused,
    k.long, k.short, k.check, k.kind, k.purged, k.answersLost, k.strangersHeard, k.strangerOverflow, k.blind]

/-- A channel's five counters in the order of R183. -/
def ChannelCounters.values (k : ChannelCounters) : List Nat :=
  [k.transmitted, k.shedLow, k.shedNormal, k.shedHigh, k.flushed]

/-- The six link counters in the order of R183. -/
def LinkCounters.values (k : LinkCounters) : List Nat :=
  [k.plannerBad, k.plannerOverlong, k.commandsOverflow, k.fieldBad, k.fieldOverlong, k.unknownType]

/-- The 65 counters of a COUNTERS reply (R171, R183). -/
def State.counterValues (s : State) : List Nat :=
  s.intake.counters.values ++ (allChannels.flatMap fun c => (s.channel c).counters.values) ++ s.link.counters.values

/-- Every one of the 65 counters set to 0 (R171). -/
def clearCounters (s : State) : State :=
  ((s.setReports
      { s.reports with channels := s.reports.channels.map fun ch => { ch with counters := {} } }).setIntake
    { s.intake with counters := {} }).setLink { s.link with counters := {} }

/-- COUNTERS carried out (R171). -/
def countersAct (body : List Byte) (s : State) : State × Reply :=
  match readYesNo (byteAt body 0) with
  | none => (s, .refused .range)
  | some clear => (if clear then clearCounters s else s, .counters s.counterValues)

/-- COUNTERS, command type 0x15. -/
def execCounters (s : State) : Host.Outcome State Fault Refusal :=
  .next (carryOut 0x15#8 (fixedLength 1) countersAct s)

/-- RESTART carried out: the restart is pending until its reply's transmission completes (R172). -/
def restartAct (_body : List Byte) (s : State) : State × Reply :=
  (s.setLink { s.link with restartPending := true }, .restart)

/-- RESTART, command type 0x16. -/
def execRestart (s : State) : Host.Outcome State Fault Refusal :=
  .next (carryOut 0x16#8 (fixedLength 0) restartAct s)

/-- The type is one of the 22 command types 0x01 to 0x16 (R166). -/
def isCommandType (type : Byte) : Bool := 1 ≤ type.toNat && type.toNat ≤ 0x16

/-- The execution of a held command of unknown type (R166, R167). -/
def refuseUnknown (s : State) : State :=
  match s.oldestHeld with
  | none => s
  | some e => if s.link.restartPending || isCommandType e.type then s else s.answerHeld (.unknownCommand e.type)

/-- UNKNOWN_COMMAND: taken when the oldest held command's type is none of the 22 (R166); otherwise not taken, log entry
2. -/
def execUnknownCommand (s : State) : Host.Outcome State Fault Refusal := .next (refuseUnknown s)

/-! ## Resets -/

/-- RESET_N is asserted low: an engine reset of cause LINE (R173). An assertion named while the line is low is a further
assertion: DESIGN CHOICE, unsafe, log entry 7. -/
def resetAssertion (s : State) : State :=
  let t := engineReset .line s
  t.setLink { t.link with resetLow := true }

/-- RESET_N_ASSERTION (R173). -/
def execResetNAssertion (s : State) : Host.Outcome State Fault Refusal := .next (resetAssertion s)

/-- RESET_N_RELEASE: RESET_N returns high (R173). -/
def execResetNRelease (s : State) : Host.Outcome State Fault Refusal :=
  .next (s.setLink { s.link with resetLow := false })

/-- POWER_ON_RESET: all state starts afresh (R25, R161). -/
def execPowerOnReset (s : State) : Host.Outcome State Fault Refusal := .next (powerOn s)

end Sys2Proof.Machine
end

