-- ==== Sys2Proof/Machine/ReportChannels.lean ====
section
/-! DEFINITION. Report Channels' commands and the delivery of copies, replies and the start notice on the planner link
(07_report_channels.md). -/

namespace Sys2Proof.Machine

/-- A sweep is in progress on a channel (R144, R152). -/
def sweepsOn (c : Fin 8) (s : State) : Bool := s.sweep.state != .idle && s.sweep.channel == c

/-- The sweep's end at the disabling of its channel (R152). R152 drops a pending end reason and names no value the item
holds then: it keeps the one it had, DESIGN CHOICE, unsafe for a claim about the item alone, log entry 21. -/
def sweepChannelOff (s : State) : State := s.setSweep { s.sweep with state := .idle, lastEnd := .channelOff }

/-- The disabling of an enabled channel: its queue is flushed, a sweep on it ends, and a sweep on another channel is
notified (R124, R149, R152). That an empty flush notifies too is DEDUCED from R149's 'every flush', unsafe, log entry 11;
the order inside the event is DEDUCED, safe, log entry 16. -/
def disableChannel (c : Fin 8) (s : State) : State :=
  let t := flush c s
  if sweepsOn c s then sweepChannelOff t else notifySweep t

/-- The channel with a new configuration; credit, queue and counters stand (R123). -/
def configured (x : ChannelConfig) (ch : Channel) : Channel :=
  { ch with
    enabled := x.enabled
    kindMask := x.kindMask
    profileMask := x.profileMask
    districtMask := x.districtMask
    shedThreshold := x.shedThreshold }

/-- An accepted CHANNEL-SET (R123, R124). -/
def setChannel (c : Fin 8) (x : ChannelConfig) (s : State) : State :=
  let t := s.putChannel c (configured x (s.channel c))
  if (s.channel c).enabled && !x.enabled then disableChannel c t else t

/-- The number of copies an accepted CHANNEL-SET flushes (R123). -/
def flushedBy (c : Fin 8) (x : ChannelConfig) (s : State) : Nat :=
  if (s.channel c).enabled && !x.enabled then (s.flushedCopies c).length else 0

/-- CHANNEL-SET carried out, its checks in the order of R123. -/
def channelSetAct (body : List Byte) (s : State) : State × Reply :=
  match index8 (byteAt body 0), readYesNo (byteAt body 1) with
  | some c, some enabled =>
    if 128 ≤ byteAt body 2 then (s, .refusedIndex .range (body.getD 0 0))
    else
      let x : ChannelConfig :=
        { enabled := enabled
          kindMask := body.getD 2 0
          profileMask := BitVec.ofNat 16 (nat16At body 3)
          districtMask := BitVec.ofNat 32 (nat32At body 5)
          shedThreshold := byteAt body 9 }
      (setChannel c x s, .channel c x (s.channel c).credit (flushedBy c x s))
  | _, _ => (s, .refusedIndex .range (body.getD 0 0))

/-- CHANNEL-SET, command type 0x0E. -/
def execChannelSet (s : State) : Host.Outcome State Fault Refusal :=
  .next (carryOut 0x0E#8 (fixedLength 10) channelSetAct s)

/-- CREDIT carried out (R133). -/
def creditAct (body : List Byte) (s : State) : State × Reply :=
  match index8 (byteAt body 0) with
  | none => (s, .refusedIndex .range (body.getD 0 0))
  | some c =>
    let amount := nat16At body 1
    let ch := s.channel c
    let sum := raise16 ch.credit (max amount 1)
    (s.putChannel c { ch with credit := sum }, .credit (if amount = 0 then .clamped else .ok) c sum)

/-- CREDIT, command type 0x0F. -/
def execCredit (s : State) : Host.Outcome State Fault Refusal := .next (carryOut 0x0F#8 (fixedLength 3) creditAct s)

/-! ## Delivery -/

/-- A channel waits for the transmitter (R134). -/
def Channel.waits (ch : Channel) : Bool := ch.enabled && !ch.queue.isEmpty && 1 ≤ ch.credit

/-- The channels in the order ROTATE tries them: after the rotation position, past 7 to 0, that position last (R135). -/
def rotationOrder : Option (Fin 8) → List (Fin 8)
  | none => allChannels
  | some c => allChannels.map fun k => c + 1 + k

/-- The channel the arbiter chooses (R135). -/
def chosenChannel (s : State) : Option (Fin 8) :=
  match s.reports.arbitration with
  | .rotate => (rotationOrder s.reports.rotation).find? fun c => (s.channel c).waits
  | .ranked => allChannels.find? fun c => (s.channel c).waits

/-- A begin for the start notice (R135, R174). -/
def beginNotice (n : StartNotice) (s : State) : State :=
  s.setLink { s.link with startNotice := none, transmitter := .sending .startNotice n.frame }

/-- The oldest answered entry with its reply (R135). -/
def firstAnswered : List Command → Option (Command × Reply)
  | [] => none
  | e :: es =>
    match e.condition with
    | .answered r => some (e, r)
    | .held => firstAnswered es
    | .sending _ => firstAnswered es

/-- The oldest answered entry becomes sending (R165, R168). -/
def sendFirst : List Command → List Command
  | [] => []
  | e :: es =>
    match e.condition with
    | .answered r => { e with condition := .sending r } :: es
    | .held => e :: sendFirst es
    | .sending _ => e :: sendFirst es

/-- A begin for the oldest answered reply (R168). -/
def beginReply (e : Command) (r : Reply) (s : State) : State :=
  s.setLink
    { s.link with
      commands := sendFirst s.link.commands
      transmitter := .sending .reply (r.frame e.type e.tag) }

/-- A begin for a channel with its head copy: credit is spent and the rotation position moves (R135, R136). -/
def beginChannel (c : Fin 8) (copy : Copy) (s : State) : State :=
  let t := s.putChannel c { s.channel c with credit := (s.channel c).credit - 1 }
  (t.setReports { t.reports with rotation := some c }).setLink
    { s.link with transmitter := .sending (.channel c) (copy.report.frame c) }

/-- A begin for the channel the arbiter chooses, if any waits (R135). -/
def beginChosen (s : State) : State :=
  match chosenChannel s with
  | none => s
  | some c =>
    match (s.channel c).queue with
    | copy :: _ => beginChannel c copy s
    | [] => s

/-- A transmission begin among the waiting parties (R135). -/
def beginParty (s : State) : State :=
  match s.link.startNotice with
  | some n => beginNotice n s
  | none =>
    match firstAnswered s.link.commands with
    | some (e, r) => beginReply e r s
    | none => beginChosen s

/-- TRANSMISSION_BEGIN: taken at an idle transmitter that RESET_N does not hold, with a party waiting (R135, R173);
otherwise not taken, log entry 2. -/
def execTransmissionBegin (s : State) : Host.Outcome State Fault Refusal :=
  .next (if s.link.resetLow = false ∧ s.link.transmitter = .idle then beginParty s else s)

/-- The transmitter becomes idle (R137). -/
def idleTransmitter (s : State) : State := s.setLink { s.link with transmitter := .idle }

/-- The completion of a channel copy: it leaves, is counted, and the Sweep Unit is notified (R137, R149). -/
def completeCopy (c : Fin 8) (s : State) : State :=
  let ch := s.channel c
  notifySweep
    (idleTransmitter
      (s.putChannel c
        { ch with
          queue := ch.queue.drop 1
          counters := { ch.counters with transmitted := raise32 ch.counters.transmitted 1 } }))

/-- The entry at the head of the Command Queue is the RESTART whose reply is being sent (R172). DEDUCED, safe, log entry
19. -/
def sendsRestart (s : State) : Bool :=
  match s.link.commands with
  | e :: _ => e.condition == .sending .restart
  | [] => false

/-- The completion of a reply: its entry leaves the head of the Command Queue; the RESTART's reply takes the engine
reset of cause COMMAND (R168, R172). -/
def completeReply (s : State) : State :=
  if sendsRestart s then engineReset .command s
  else s.setLink { s.link with commands := s.link.commands.drop 1, transmitter := .idle }

/-- The completion of a party's frame (R137). -/
def completeParty (p : Party) (s : State) : State :=
  match p with
  | .startNotice => idleTransmitter s
  | .reply => completeReply s
  | .channel c => completeCopy c s

/-- The completion of the frame in transmission (R137). -/
def completion (s : State) : State :=
  match s.link.transmitter with
  | .idle => s
  | .sending p _ => completeParty p s

/-- TRANSMISSION_COMPLETION (R137); at an idle transmitter not taken, log entry 2. -/
def execTransmissionCompletion (s : State) : Host.Outcome State Fault Refusal := .next (completion s)

end Sys2Proof.Machine
end

