-- ==== Sys2Proof/Machine/StreetClock.lean ====
section
/-! DEFINITION. The Street Clock (09_the_street_clock.md): the divider, the seconds event and SET-TIME. -/

namespace Sys2Proof.Machine

/-- The end of a count of 32,768 oscillations: uptime rises by one unless it is saturated, and the divider starts again
(R156). The three owners then have a seconds event to take (R157), log entry 5. -/
def secondsEvent (s : State) : State := s.setClock { s.clock with uptime := raise32 s.clock.uptime 1, divider := 0 }

/-- SECONDS_EVENT: the count under way completes (R156). DESIGN CHOICE, safe, log entry 4. -/
def execSecondsEvent (s : State) : Host.Outcome State Fault Refusal := .next (secondsEvent s)

/-- One oscillation of the crystal (R156). -/
def oscillate (s : State) : State :=
  if s.clock.divider + 1 < Config.oscillations then s.setClock { s.clock with divider := s.clock.divider + 1 }
  else secondsEvent s

/-- SET-TIME carried out (R159). -/
def setTimeAct (body : List Byte) (s : State) : State × Reply :=
  let clock :=
    { s.clock with
      isSet := true
      offset := BitVec.ofNat 32 (nat32At body 0) - BitVec.ofNat 32 s.clock.uptime }
  (s.setClock clock, .time clock.offset clock.uptime (stamp clock clock.uptime))

/-- SET-TIME, command type 0x12. -/
def execSetTime (s : State) : Host.Outcome State Fault Refusal := .next (carryOut 0x12#8 (fixedLength 4) setTimeAct s)

end Sys2Proof.Machine
end

