-- ==== Sys2Proof/Machine/SweepUnit.lean ====
section
/-! DEFINITION. The Sweep Unit (08_sweeps.md): SWEEP, SWEEP-ABORT, the visits and the SWEEP_END placement. -/

namespace Sys2Proof.Machine

/-- An accepted SWEEP (R145). -/
def startSweep (c : Fin 8) (sel : Selection) (body : List Byte) (s : State) : State :=
  s.setSweep
    { s.sweep with
      state := .running
      channel := c
      selection := sel
      minimumBand := body.getD 2 0
      profileMask := BitVec.ofNat 16 (nat16At body 3)
      districtMask := BitVec.ofNat 32 (nat32At body 5)
      cursor := 0
      visited := 0
      emitted := 0 }

/-- A SWEEP or SWEEP-ABORT reply: the status with the sweep's state and cursor (R145, R151). -/
def sweepReply (st : Status) (s : State) : Reply := .sweep st s.sweep.state s.sweep.cursor

/-- SWEEP carried out, its checks in the order of R145. -/
def sweepAct (body : List Byte) (s : State) : State × Reply :=
  if s.sweep.state ≠ .idle then (s, sweepReply .busy s)
  else
    match index8 (byteAt body 0), readSelection (byteAt body 1) with
    | some c, some sel =>
      if sel = .band ∧ validMinimumBand (byteAt body 2) = false then (s, sweepReply .range s)
      else if (s.channel c).enabled then
        (startSweep c sel body s, sweepReply .ok (startSweep c sel body s))
      else (s, sweepReply .channelOff s)
    | _, _ => (s, sweepReply .range s)

/-- SWEEP, command type 0x10. -/
def execSweep (s : State) : Host.Outcome State Fault Refusal := .next (carryOut 0x10#8 (fixedLength 9) sweepAct s)

/-- SWEEP-ABORT carried out by the state it is taken in (R151). -/
def sweepAbortAct (_body : List Byte) (s : State) : State × Reply :=
  match s.sweep.state with
  | .running => (enterClosing .aborted s, sweepReply .ok (enterClosing .aborted s))
  | .waiting => (enterClosing .aborted s, sweepReply .ok (enterClosing .aborted s))
  | .closing => (s, sweepReply .ok s)
  | .idle => (s, sweepReply .notRunning s)

/-- SWEEP-ABORT, command type 0x11. -/
def execSweepAbort (s : State) : Host.Outcome State Fault Refusal :=
  .next (carryOut 0x11#8 (fixedLength 0) sweepAbortAct s)

/-! ## Visits -/

/-- The record meets the sweep's selection (R146). -/
def meetsSelection (w : Sweep) (r : BinRecord) : Bool :=
  match w.selection with
  | .all => true
  | .owed => r.owed.getLsbD w.channel
  | .band => r.band != .none && w.minimumBand.toNat ≤ r.band.code

/-- The record matches the sweep (R146). -/
def sweepMatches (w : Sweep) (r : BinRecord) : Bool :=
  w.profileMask.getLsbD r.profile && w.districtMask.getLsbD r.district && meetsSelection w r

/-- The record at the cursor, when it matches the sweep (R146). -/
def matchAtCursor (s : State) : Option BinRecord :=
  match s.bin s.sweep.cursor with
  | some r => if sweepMatches s.sweep r then some r else none
  | none => none

/-- The SNAPSHOT offer of the record at the cursor (R148). -/
def snapshotOffer (r : BinRecord) (s : State) : Offer :=
  { report := reportAt s.clock s.clock.uptime
      (.snapshot (summaryOf s.clock s.sweep.cursor r) (detailOf s.clock r))
    concerns := some s.sweep.cursor }

/-- The cursor passes a slot; past slot 4095 the sweep enters CLOSING, COMPLETE (R147). -/
def passSlot (s : State) : State :=
  let t := s.setSweep { s.sweep with cursor := s.sweep.cursor + 1, visited := s.sweep.visited + 1 }
  if t.sweep.cursor = Config.slots then enterClosing .complete t else t

/-- A visit of the slot at the cursor (R147). -/
def visit (s : State) : State :=
  match matchAtCursor s with
  | none => passSlot s
  | some r =>
    if s.sweepHasRoom then
      passSlot
        ((queueCopy (snapshotOffer r s) s.sweep.channel s).setSweep { s.sweep with emitted := s.sweep.emitted + 1 })
    else s.setSweep { s.sweep with state := .waiting }

/-- SWEEP_VISIT: taken while the sweep is RUNNING (R146); otherwise not taken, log entry 2. -/
def execSweepVisit (s : State) : Host.Outcome State Fault Refusal :=
  .next (if s.sweep.state = .running then visit s else s)

/-- SWEEP_END_PLACEMENT: judged while the sweep is CLOSING (R150); otherwise not taken, log entry 2. The part judges it
in the event that enters CLOSING and at each notification, which those events do themselves: DEDUCED, safe, log entry
15. -/
def execSweepEndPlacement (s : State) : Host.Outcome State Fault Refusal :=
  .next (if s.sweep.state = .closing then judgeSweepEnd s else s)

end Sys2Proof.Machine
end

