-- ==== Sys2Proof/Machine/Dispatch.lean ====
section
/-! DEFINITION. The effect of each command on everything but the queue of waiting commands: one arm per row. -/

namespace Sys2Proof.Machine

def exec (i : Instr) (s : State) : Host.Outcome State Fault Refusal :=
  match i with
  | .capture bytes => Sys2Proof.Machine.execCapture bytes s
  | .unknownType bytes => Sys2Proof.Machine.execUnknownType bytes s
  | .framesBad l bytes => Sys2Proof.Machine.execFramesBad l bytes s
  | .framesOverlong l bytes => Sys2Proof.Machine.execFramesOverlong l bytes s
  | .commandArrival bytes => Sys2Proof.Machine.execCommandArrival bytes s
  | .enrol => Sys2Proof.Machine.execEnrol s
  | .amend => Sys2Proof.Machine.execAmend s
  | .retire => Sys2Proof.Machine.execRetire s
  | .bar => Sys2Proof.Machine.execBar s
  | .unbar => Sys2Proof.Machine.execUnbar s
  | .query => Sys2Proof.Machine.execQuery s
  | .inject => Sys2Proof.Machine.execInject s
  | .profileSet => Sys2Proof.Machine.execProfileSet s
  | .profileGet => Sys2Proof.Machine.execProfileGet s
  | .list => Sys2Proof.Machine.execList s
  | .clearAlarms => Sys2Proof.Machine.execClearAlarms s
  | .strangers => Sys2Proof.Machine.execStrangers s
  | .dismiss => Sys2Proof.Machine.execDismiss s
  | .channelSet => Sys2Proof.Machine.execChannelSet s
  | .credit => Sys2Proof.Machine.execCredit s
  | .sweep => Sys2Proof.Machine.execSweep s
  | .sweepAbort => Sys2Proof.Machine.execSweepAbort s
  | .setTime => Sys2Proof.Machine.execSetTime s
  | .status => Sys2Proof.Machine.execStatus s
  | .config => Sys2Proof.Machine.execConfig s
  | .counters => Sys2Proof.Machine.execCounters s
  | .restart => Sys2Proof.Machine.execRestart s
  | .unknownCommand => Sys2Proof.Machine.execUnknownCommand s
  | .estimation => Sys2Proof.Machine.execEstimation s
  | .secondsEvent => Sys2Proof.Machine.execSecondsEvent s
  | .secondsWalk => Sys2Proof.Machine.execSecondsWalk s
  | .silenceCheck => Sys2Proof.Machine.execSilenceCheck s
  | .strangerAging => Sys2Proof.Machine.execStrangerAging s
  | .transmissionBegin => Sys2Proof.Machine.execTransmissionBegin s
  | .transmissionCompletion => Sys2Proof.Machine.execTransmissionCompletion s
  | .answerTransmissionBegin => Sys2Proof.Machine.execAnswerTransmissionBegin s
  | .answerTransmissionCompletion => Sys2Proof.Machine.execAnswerTransmissionCompletion s
  | .sweepVisit => Sys2Proof.Machine.execSweepVisit s
  | .sweepEndPlacement => Sys2Proof.Machine.execSweepEndPlacement s
  | .resetNAssertion => Sys2Proof.Machine.execResetNAssertion s
  | .resetNRelease => Sys2Proof.Machine.execResetNRelease s
  | .powerOnReset => Sys2Proof.Machine.execPowerOnReset s

end Sys2Proof.Machine
end

