-- ==== Sys2Proof/Machine/Step.lean ====
section
/-! DEFINITION. One step: the command at the front of the queue is taken; with no command waiting the crystal makes one
oscillation. -/

namespace Sys2Proof.Machine

/-- One step of the part. On an empty queue one oscillation of the crystal passes (R156): DESIGN CHOICE, safe, log entry
3. -/
def step (s : State) : Host.Outcome State Fault Refusal :=
  match s.pending with
  | [] => .next (oscillate s)
  | c :: rest => exec c (s.setPending rest)

/-- The state with the command a table word spells at the front of its queue; no word spells one (log entry 20). -/
def State.withFetchWord (s : State) (nbits w : Nat) : State :=
  match decodeTableWord nbits w with
  | some c => s.setPending (c :: s.pending)
  | none => s

end Sys2Proof.Machine
end

