-- ==== Sys2Proof/Machine/Requests.lean ====
section
/-! DEFINITION. The command bodies as the host writes them (R182), for the statements and the tests: fields in order, with
their sizes. The part reads them by Sys2Proof/Machine/Operands.lean. -/

namespace Sys2Proof.Machine

/-- ENROL: identity 4, profile 1, district 1, ack mode 1. -/
def enrolBody (id : Identity) (profile district ackMode : Nat) : List Byte :=
  be32 id.toNat ++ [byteOf profile, byteOf district, byteOf ackMode]

/-- The presence byte of AMEND: bit 0 profile, bit 1 district, bit 2 ack mode. -/
def presenceByte (profile district ackMode : Bool) : Byte :=
  byteOf (flagBit profile 1 + flagBit district 2 + flagBit ackMode 4)

/-- AMEND: identity 4, presence 1, profile 1, district 1, ack mode 1; an absent field's byte is 0. -/
def amendBody (id : Identity) (profile district ackMode : Option Nat) : List Byte :=
  be32 id.toNat ++
    [presenceByte profile.isSome district.isSome ackMode.isSome, byteOf (profile.getD 0), byteOf (district.getD 0),
      byteOf (ackMode.getD 0)]

/-- RETIRE, BAR, UNBAR, QUERY, DISMISS: identity 4. -/
def identityBody (id : Identity) : List Byte := be32 id.toNat

/-- INJECT: age 2, antenna 1, RSSI 1, sensor frame. -/
def injectBody (age : Nat) (antenna rssi : Byte) (frame : List Byte) : List Byte :=
  be16 age ++ antenna :: rssi :: frame

/-- PROFILE-SET: profile 1, then the nine parameters. -/
def profileSetBody (index : Nat) (median : Nat) (p : Profile) : List Byte :=
  byteOf index :: (be16 p.emptyDepth ++ be16 p.fullDepth ++ be16 p.threshold ++
    [byteOf p.fillWeight, byteOf p.rateWeight, byteOf median] ++
    be16 p.emptiedDrop ++ be16 p.reportStep ++ be16 p.silenceLimit)

/-- PROFILE-GET: profile 1. -/
def profileGetBody (index : Nat) : List Byte := [byteOf index]

/-- LIST: maximum 1, profile mask 2, district mask 4, minimum band 1. -/
def listBody (maximum : Nat) (profiles : BitVec 16) (districts : BitVec 32) (minimum : Nat) : List Byte :=
  byteOf maximum :: (be16 profiles.toNat ++ be32 districts.toNat ++ [byteOf minimum])

/-- CLEAR-ALARMS: identity 4, mask 1. -/
def clearAlarmsBody (id : Identity) (mask : Nat) : List Byte := be32 id.toNat ++ [byteOf mask]

/-- CHANNEL-SET: channel 1, enabled 1, kind mask 1, profile mask 2, district mask 4, shed threshold 1. -/
def channelSetBody (channel enabled : Nat) (kinds : Byte) (profiles : BitVec 16) (districts : BitVec 32)
    (threshold : Nat) : List Byte :=
  [byteOf channel, byteOf enabled, kinds] ++ be16 profiles.toNat ++ be32 districts.toNat ++ [byteOf threshold]

/-- CREDIT: channel 1, amount 2. -/
def creditBody (channel amount : Nat) : List Byte := byteOf channel :: be16 amount

/-- SWEEP: channel 1, selection 1, minimum band 1, profile mask 2, district mask 4. -/
def sweepBody (channel selection : Nat) (minimum : Byte) (profiles : BitVec 16) (districts : BitVec 32) : List Byte :=
  [byteOf channel, byteOf selection, minimum] ++ be16 profiles.toNat ++ be32 districts.toNat

/-- SET-TIME: street time 4. -/
def setTimeBody (street : Nat) : List Byte := be32 street

/-- CONFIG: hold threshold 1, capture limit 1, soon horizon 4, stranger age 4, arbitration mode 1. -/
def configBody (hold limit horizon age mode : Nat) : List Byte :=
  [byteOf hold, byteOf limit] ++ be32 horizon ++ be32 age ++ [byteOf mode]

/-- COUNTERS: clear flag 1. -/
def countersBody (clear : Nat) : List Byte := [byteOf clear]

/-- A sensor frame of a READING: identity, control, distance word, battery, CRC-16 (R178). -/
def readingFrame (id : Identity) (seq : BitVec 4) (distance : Nat) (lid tilt : Bool) (battery : Nat) : List Byte :=
  let covered := be32 id.toNat ++ [byteOf (seq.toNat * 16 + 1)] ++
    be16 (distance + flagBit lid 4096 + flagBit tilt 8192) ++ [byteOf battery]
  covered ++ be16 (crc16 covered).toNat

/-- A sensor frame of a JOIN: identity, control, CRC-16 (R178). -/
def joinFrame (id : Identity) (seq : BitVec 4) : List Byte :=
  let covered := be32 id.toNat ++ [byteOf (seq.toNat * 16 + 2)]
  covered ++ be16 (crc16 covered).toNat

end Sys2Proof.Machine
end

