-- ==== Sys2Proof/Safety.lean ====
section
/-! DEFINITION. What the claims speak of: a command being executed, the layouts of the messages, what settling offers
leaves alone, and the laws the manual says the part keeps. A run is safe when it never stops: the part has no error
state (R167). -/

namespace Sys2Proof.Machine

/-! ## Events -/

/-- The oldest held command has this type and body, and no restart is pending: its execution is the event to come
(R166). The row itself carries no operand: DESIGN CHOICE, safe, log entry 1. -/
abbrev Executing (s : State) (type : Byte) (body : List Byte) : Prop :=
  s.link.restartPending = false ∧ s.oldestHeld.map (fun e => (e.type, e.body)) = some (type, body)

/-- RESET_N is high and the field link brings a whole capture frame with this body; the receiver goes on with `rest`
(R27, R162). -/
abbrev Delivers (s : State) (bytes body rest : List Byte) : Prop :=
  s.link.resetLow = false ∧ ∃ tag, findFrame (s.link.fieldHeld ++ bytes) = .arrived 0x20#8 tag body rest

/-- A 32-bit count raised, saturating (R44, R139, R175). -/
abbrev sat32 (n k : Nat) : Nat := min (n + k) 4294967295

/-- A 16-bit count raised, saturating (R6). -/
abbrev sat16 (n k : Nat) : Nat := min (n + k) 65535

/-- The state with other intake counters. -/
def State.withCounters (s : State) (k : IntakeCounters) : State := s.setIntake { s.intake with counters := k }

/-- The state as a field capture is judged: the receiver goes on, and "captures field" has risen (R27). -/
def capturing (s : State) (rest : List Byte) : State :=
  (s.setLink { s.link with fieldHeld := rest }).withCounters
    { s.intake.counters with capturesField := sat32 s.intake.counters.capturesField 1 }

/-- The state as an injected capture is judged: "captures relayed" has risen (R28). -/
def injecting (s : State) : State :=
  s.withCounters { s.intake.counters with capturesRelayed := sat32 s.intake.counters.capturesRelayed 1 }

/-- An answer of this verdict is queued exactly for a field capture of an ANSWERED bin (R42, R43). -/
def answering (source : Source) (r : BinRecord) (seq : BitVec 4) (v : Verdict) (s : State) : State :=
  if source = .field ∧ r.ackMode = .answered then placeAnswer { identity := r.identity, seq := seq, verdict := v } s
  else s

/-- A record on the Urgency List: occupied, not barred, banded (R76). -/
abbrev OnUrgencyList (r : BinRecord) : Prop := r.band ≠ .none ∧ r.standing ≠ .barred

/-- A record on the Silence List (R91). -/
abbrev OnSilenceList (r : BinRecord) : Prop := r.standing = .enrolled ∨ r.standing = .active

/-! ## The layouts of the messages -/

/-- Fields, CRC and frame (R30, R177, R179). -/
structure FrameLayout : Prop where
  one : ∀ n, byteOf n = BitVec.ofNat 8 n
  two : ∀ n, be16 n = [BitVec.ofNat 8 (n / 256), BitVec.ofNat 8 n]
  four : ∀ n, be32 n =
    [BitVec.ofNat 8 (n / 16777216), BitVec.ofNat 8 (n / 65536), BitVec.ofNat 8 (n / 256), BitVec.ofNat 8 n]
  digits : crc16 [0x31#8, 0x32#8, 0x33#8, 0x34#8, 0x35#8, 0x36#8, 0x37#8, 0x38#8, 0x39#8] = 0x29B1#16
  whole : ∀ (type tag : Byte) (body covered : List Byte), covered = be16 (body.length + 2) ++ type :: tag :: body →
    frameBytes type tag body = 0xC3#8 :: (covered ++ be16 (crc16 covered).toNat)

/-- The codes of enumerations and sets in messages (R178, R179). -/
structure CodeTable : Prop where
  standings : [Standing.enrolled, .active, .silent, .barred].map Standing.code = [0, 1, 2, 3]
  bands : [Band.none, .later, .soon, .due].map Band.code = [0, 1, 2, 3]
  ackModes : [AckMode.unanswered, .answered].map AckMode.code = [0, 1]
  expectations : expectationByte none = 0xFF#8 ∧ ∀ e : BitVec 4, expectationByte (some e) = byteOf e.toNat
  conditions : ∀ x : AlarmSet, x.byte = byteOf
    ((if x.lid then 1 else 0) + (if x.tilt then 2 else 0) + (if x.overfull then 4 else 0) + (if x.lapse then 8 else 0))
  alarms : [Alarm.lid, .tilt, .overfull, .lapse].map Alarm.byte = [1#8, 2#8, 4#8, 8#8]
  arbitrations : [Arbitration.rotate, .ranked].map Arbitration.code = [0, 1]
  causes : [ResetCause.powerOn, .line, .command].map ResetCause.code = [0, 1, 2]
  sweepStates : [SweepState.idle, .running, .waiting, .closing].map SweepState.code = [0, 1, 2, 3]
  reasons : [EndReason.none, .complete, .aborted, .channelOff, .reset].map EndReason.code = [0, 1, 2, 3, 4] ∧
    [PendingEnd.complete, .aborted].map PendingEnd.reason = [.complete, .aborted]
  sources : [Source.field, .relayed].map Source.code = [0, 1]
  outcomes : [CaptureOutcome.accepted, .duplicate, .stale, .held, .refused, .stranger].map
      (fun o => (o.code, o.reasonCode)) = [(0, 0), (1, 0), (2, 0), (3, 0), (4, 0), (5, 0)] ∧
    ∀ why, (CaptureOutcome.malformed why).code = 6 ∧ (CaptureOutcome.malformed why).reasonCode = why.code
  malformed : [Malformed.long, .short, .check, .kind].map Malformed.code = [1, 2, 3, 4]
  verdicts : [Verdict.accept, .hold, .refuse].map Verdict.code = [1, 2, 3]
  statuses : [Status.ok, .clamped, .unknownCommand, .badLength, .range, .noSuchBin, .alreadyExists, .tableFull, .busy,
    .channelOff, .persisting, .notRunning].map Status.code = [0, 1, 2, 3, 4, 5, 6, 7, 8, 9, 10, 11]

/-- Reports and the start notice, field by field (R177, R180, R181). An absent field is zero bytes (R179). -/
structure ReportLayout : Prop where
  frame : ∀ (r : Report) (c : Fin 8), r.frame c =
    frameBytes r.body.type (byteOf c.val) (byteOf (if r.unset then 1 else 0) :: (be32 r.time ++ r.body.bytes))
  summary : ∀ b : Summary, b.bytes =
    be32 b.identity.toNat ++ be16 b.slot ++
      [byteOf b.profile.val, byteOf b.district.val, byteOf b.standing.code, byteOf b.band.code,
        byteOf ((if b.fill.isSome then 1 else 0) + (if b.due.isSome then 2 else 0) + if b.projected then 4 else 0)] ++
      be16 (b.fill.getD 0) ++ be16 b.hours ++ be32 (b.due.getD 0) ++ [b.conditions.byte]
  detail : ∀ d : Detail, d.bytes =
    [byteOf d.ackMode.code, expectationByte d.expectation,
        byteOf ((if d.rateValid then 1 else 0) + (if d.rebasePending then 2 else 0) +
          (if d.lastReading.isSome then 4 else 0) + (if d.lastEmptied.isSome then 8 else 0) +
          (if d.lastReported.isSome then 16 else 0) + (if d.battery.isSome then 32 else 0) +
          if d.lastRssi.isSome then 64 else 0)] ++
      be16 d.rate ++ be32 (d.lastReading.getD 0) ++ be32 d.lastHeard ++ be16 (d.lastReported.getD 0) ++
      [byteOf (d.battery.getD 0), BitVec.ofInt 8 (d.lastRssi.getD 0), byteOf (d.lastAntenna.getD 0), d.latches.byte,
        d.owed] ++
      be32 d.deadline ++ be16 d.estimated ++ be16 d.missed ++ be16 d.duplicates ++ be16 d.emptied ++
      be32 (d.lastEmptied.getD 0) ++ be32 d.enrolTime
  lengths : ∀ (b : Summary) (d : Detail), b.bytes.length = 20 ∧ d.bytes.length = 40
  fill : ∀ b, (ReportBody.fill b).type = 0x40#8 ∧ (ReportBody.fill b).bytes = b.bytes
  malformed : ∀ why source length (id : Option Identity) (heard : Option (Int × Nat)),
    (ReportBody.malformed why source length id heard).type = 0x41#8 ∧
    (ReportBody.malformed why source length id heard).bytes =
      [byteOf why.code, byteOf source.code] ++ be16 length ++
        [byteOf ((if id.isSome then 1 else 0) + if heard.isSome then 2 else 0)] ++ be32 (id.getD 0#32).toNat ++
        [BitVec.ofInt 8 (heard.getD (0, 0)).1, byteOf (heard.getD (0, 0)).2]
  soon : ∀ b, (ReportBody.soon b).type = 0x42#8 ∧ (ReportBody.soon b).bytes = b.bytes
  emptied : ∀ b previous count, (ReportBody.emptied b previous count).type = 0x43#8 ∧
    (ReportBody.emptied b previous count).bytes = b.bytes ++ be16 previous ++ be16 count
  stranger : ∀ (id : Identity) join (seq : BitVec 4) rssi antenna count,
    (ReportBody.stranger id join seq rssi antenna count).type = 0x44#8 ∧
    (ReportBody.stranger id join seq rssi antenna count).bytes =
      be32 id.toNat ++ [if join then 2#8 else 1#8, byteOf seq.toNat, BitVec.ofInt 8 rssi, byteOf antenna, byteOf count]
  snapshot : ∀ b d, (ReportBody.snapshot b d).type = 0x45#8 ∧ (ReportBody.snapshot b d).bytes = b.bytes ++ d.bytes
  sweepEnd : ∀ reason (c : Fin 8) visited emitted, (ReportBody.sweepEnd reason c visited emitted).type = 0x46#8 ∧
    (ReportBody.sweepEnd reason c visited emitted).bytes =
      [byteOf reason.reason.code, byteOf c.val] ++ be16 visited ++ be16 emitted
  due : ∀ b, (ReportBody.due b).type = 0x47#8 ∧ (ReportBody.due b).bytes = b.bytes
  alarm : ∀ b (rose : Alarm) (latches : AlarmSet), (ReportBody.alarm b rose latches).type = 0x48#8 ∧
    (ReportBody.alarm b rose latches).bytes = b.bytes ++ [rose.byte, latches.byte]
  notice : ∀ n : StartNotice, n.frame =
    frameBytes 0x4F#8 0#8 (byteOf n.cause.code :: (be16 n.occupied ++ [byteOf (if n.isSet then 1 else 0)]))

/-- Replies, field by field, status first (R167, R182, R183). -/
structure ReplyLayout : Prop where
  frame : ∀ (r : Reply) (command tag : Byte), (∀ held, r ≠ .unknownCommand held) →
    r.frame command tag = frameBytes (command + 0x80#8) tag r.bytes
  unknownCommand : ∀ held command tag : Byte,
    (Reply.unknownCommand held).frame command tag = frameBytes 0x80#8 tag [2#8, held]
  badLength : Reply.badLength.bytes = [3#8]
  refusedIdentity : ∀ st (id : Identity), (Reply.refusedIdentity st id).bytes = byteOf st.code :: be32 id.toNat
  refusedIndex : ∀ st index, (Reply.refusedIndex st index).bytes = [byteOf st.code, index]
  refused : ∀ st, (Reply.refused st).bytes = [byteOf st.code]
  enrolled : ∀ slot, (Reply.enrolled slot).bytes = 0#8 :: be16 slot
  done : ∀ id : Identity, (Reply.done id).bytes = 0#8 :: be32 id.toNat
  retired : ∀ (id : Identity) slot purged,
    (Reply.retired id slot purged).bytes = 0#8 :: (be32 id.toNat ++ be16 slot ++ [byteOf purged])
  barred : ∀ (id : Identity) purged, (Reply.barred id purged).bytes = 0#8 :: (be32 id.toNat ++ [byteOf purged])
  record : ∀ (unset : Bool) b d (window : List Nat), (Reply.record unset b d window).bytes =
    [0#8, byteOf (if unset then 1 else 0)] ++ b.bytes ++ d.bytes ++ [byteOf window.length] ++ be16 (window.getD 0 0) ++
      be16 (window.getD 1 0) ++ be16 (window.getD 2 0)
  injected : ∀ outcome (id : Option Identity) (bin : Option (Nat × Option (BitVec 4))),
    (Reply.injected outcome id bin).bytes =
      [0#8, byteOf outcome.code, byteOf outcome.reasonCode,
          byteOf ((if id.isSome then 1 else 0) + if bin.isSome then 2 else 0)] ++
        be32 (id.getD 0#32).toNat ++ be16 (bin.getD (0, none)).1 ++
        [match bin with
          | some p => expectationByte p.2
          | none => 0#8]
  profile : ∀ st (index : Fin 16) (p : Profile), (Reply.profile st index p).bytes =
    [byteOf st.code, byteOf index.val] ++ be16 p.emptyDepth ++ be16 p.fullDepth ++ be16 p.threshold ++
      [byteOf p.fillWeight, byteOf p.rateWeight, byteOf (if p.median then 1 else 0)] ++ be16 p.emptiedDrop ++
      be16 p.reportStep ++ be16 p.silenceLimit
  entry : ∀ e : ListEntry, e.bytes =
    be32 e.identity.toNat ++
      [byteOf e.band.code, byteOf ((if e.projected then 1 else 0) + if e.overfull then 2 else 0)] ++
      be16 e.fill ++ be16 e.hours ++ be32 e.due ++ [byteOf e.standing.code]
  listing : ∀ st (unset more : Bool) (entries : List ListEntry), (Reply.listing st unset more entries).bytes =
    [byteOf st.code, byteOf ((if unset then 1 else 0) + if more then 2 else 0), byteOf entries.length] ++
      entries.flatMap ListEntry.bytes
  alarms : ∀ st (id : Identity) (latches conditions : AlarmSet),
    (Reply.alarms st id latches conditions).bytes =
      byteOf st.code :: (be32 id.toNat ++ [latches.byte, conditions.byte])
  stranger : ∀ e : StrangerEntry, e.bytes =
    be32 e.identity.toNat ++ be32 e.firstHeard ++ be32 e.lastHeard ++
      [byteOf e.heardCount, byteOf e.lastSeq.toNat, BitVec.ofInt 8 e.bestRssi, byteOf e.bestAntenna,
        byteOf (if e.joined then 1 else 0)]
  strangers : ∀ (unset : Bool) entries, (Reply.strangers unset entries).bytes =
    [0#8, byteOf (if unset then 1 else 0), byteOf entries.length] ++ entries.flatMap StrangerEntry.bytes
  dismissed : ∀ (unset : Bool) e, (Reply.dismissed unset e).bytes = [0#8, byteOf (if unset then 1 else 0)] ++ e.bytes
  channel : ∀ (c : Fin 8) (x : ChannelConfig) credit flushed, (Reply.channel c x credit flushed).bytes =
    [0#8, byteOf c.val, byteOf (if x.enabled then 1 else 0), x.kindMask] ++ be16 x.profileMask.toNat ++
      be32 x.districtMask.toNat ++ [byteOf x.shedThreshold] ++ be16 credit ++ [byteOf flushed]
  credit : ∀ st (c : Fin 8) credit, (Reply.credit st c credit).bytes = [byteOf st.code, byteOf c.val] ++ be16 credit
  sweep : ∀ st (state : SweepState) cursor,
    (Reply.sweep st state cursor).bytes = [byteOf st.code, byteOf state.code] ++ be16 cursor
  time : ∀ (offset : BitVec 32) uptime street,
    (Reply.time offset uptime street).bytes = [0#8, 1#8] ++ be32 offset.toNat ++ be32 uptime ++ be32 street
  items : ∀ x : ConfigItems, x.bytes =
    [byteOf x.holdThreshold, byteOf x.captureLimit] ++ be32 x.soonHorizon ++ be32 x.strangerAge ++
      [byteOf x.arbitration.code]
  channelStatus : ∀ ch : ChannelStatus, ch.bytes =
    [byteOf (if ch.enabled then 1 else 0)] ++ be16 ch.credit ++ [byteOf ch.length]
  status : ∀ i : StatusItems, (Reply.status i).bytes =
    [0#8] ++ be32 i.uptime ++ [byteOf (if i.isSet then 1 else 0)] ++ be32 i.offset.toNat ++ [byteOf i.lastReset.code] ++
      be16 i.occupied ++ [byteOf i.strangers, byteOf i.intakeLength, byteOf i.commandLength] ++ be16 i.poolFree ++
      i.channels.flatMap ChannelStatus.bytes ++
      [byteOf i.sweepState.code] ++ be16 i.cursor ++ [byteOf i.lastEnd.code] ++ i.items.bytes
  config : ∀ st x, (Reply.config st x).bytes = byteOf st.code :: x.bytes
  counters : ∀ values : List Nat, (Reply.counters values).bytes = 0#8 :: values.flatMap be32
  restart : Reply.restart.bytes = [0#8]

/-! ## What settling offers leaves alone -/

/-- A record but for its owed mask. -/
def noOwed (r : BinRecord) : BinRecord := { r with owed := 0#8 }

/-- A table but for the owed masks. -/
def noOwedTable (t : SlotTable BinRecord) : SlotTable BinRecord := t.map fun p => (p.1, noOwed p.2)

/-- Nothing but Report Channels and owed masks differs (R119). -/
structure OffersOnly (s t : State) : Prop where
  pending : t.pending = s.pending
  bins : noOwedTable t.bins = noOwedTable s.bins
  profiles : t.profiles = s.profiles
  clock : t.clock = s.clock
  intake : t.intake = s.intake
  soonHorizon : t.soonHorizon = s.soonHorizon
  strangers : t.strangers = s.strangers
  sweep : t.sweep = s.sweep
  link : t.link = s.link
  arbitration : t.reports.arbitration = s.reports.arbitration
  rotation : t.reports.rotation = s.reports.rotation

/-- A channel's configuration and credit are kept, and its queue only grows at its end. -/
def ChannelGrows (x y : Channel) : Prop :=
  y.enabled = x.enabled ∧ y.kindMask = x.kindMask ∧ y.profileMask = x.profileMask ∧
    y.districtMask = x.districtMask ∧ y.shedThreshold = x.shedThreshold ∧ y.credit = x.credit ∧
    y.counters.transmitted = x.counters.transmitted ∧ y.counters.flushed = x.counters.flushed ∧
    ∃ more, y.queue = x.queue ++ more

/-! ## The laws -/

/-- A profile's parameters in their ranges (R49). -/
structure ProfileLaw (p : Profile) : Prop where
  empty : 100 ≤ p.emptyDepth ∧ p.emptyDepth ≤ 4000
  full : p.fullDepth + 50 ≤ p.emptyDepth
  threshold : 100 ≤ p.threshold ∧ p.threshold ≤ 1000
  fillWeight : 1 ≤ p.fillWeight ∧ p.fillWeight ≤ 16
  rateWeight : 1 ≤ p.rateWeight ∧ p.rateWeight ≤ 16
  drop : 50 ≤ p.emptiedDrop ∧ p.emptiedDrop ≤ 1000
  step : 10 ≤ p.reportStep ∧ p.reportStep ≤ 500
  limit : 10 ≤ p.silenceLimit ∧ p.silenceLimit ≤ 10080

/-- One record's law: the ranges of R7, what comes with a fill (R7, R63 to R67), fill and state (R4), band and due time
(R76), and 'every present condition has its latch set' (R98). -/
structure RecordLaw (r : BinRecord) : Prop where
  fill : ∀ f, r.fill = some f → f ≤ 1000
  window : r.window.length ≤ 3 ∧ ∀ f ∈ r.window, f ≤ 1000
  rate : r.rate ≤ 16000
  hours : r.hours ≤ 65535
  measured : r.fill ≠ none → r.lastReading ≠ none ∧ r.window ≠ []
  unmeasured : r.fill = none → r.rateValid = false ∧ r.conditions.overfull = false
  due : r.due = none ↔ r.hours = 65535
  active : r.standing = .active → r.fill ≠ none
  enrolled : r.standing = .enrolled → r.fill = none
  listed : r.band ≠ .none → r.due ≠ none
  barred : r.standing = .barred → r.band = .none
  latched : ∀ a, r.conditions.has a = true → r.latches.has a = true

/-- The laws of records and profiles (R7, R49, R98). -/
structure EstimateLaw (s : State) : Prop where
  profiles : ∀ i : Fin 16, ProfileLaw (s.profile i)
  records : ∀ p ∈ s.bins, RecordLaw p.2

/-- The laws of identities, strangers and Intake Queue entries (R2, R41, R107). -/
structure IdentityLaw (s : State) : Prop where
  table : tableWf s.bins = true
  distinct : s.bins.Pairwise fun p q => p.2.identity ≠ q.2.identity
  valid : ∀ p ∈ s.bins, validIdentity p.2.identity = true
  strangersDistinct : s.strangers.entries.Pairwise fun x y => x.identity ≠ y.identity
  strangersUnknown : ∀ e ∈ s.strangers.entries, ∀ p ∈ s.bins, e.identity ≠ p.2.identity
  strangersValid : ∀ e ∈ s.strangers.entries, validIdentity e.identity = true
  intake : ∀ e ∈ s.intake.queue, ∃ r, s.bin e.slot = some r ∧ r.standing ≠ .barred

/-- The laws of the queues and the pool (R41, R43, R107, R126, R127, R136, R165), with what they need of the sweep and
the transmitter. -/
structure QueueLaw (s : State) : Prop where
  intake : s.intake.queue.length ≤ 64
  answers : s.intake.answers.length ≤ 16
  strangers : s.strangers.entries.length ≤ 32
  commands : s.link.commands.length ≤ 4
  pool : s.queued ≤ 256
  queues : ∀ c : Fin 8, (s.channel c).queue.length ≤ 64
  disabled : ∀ c : Fin 8, (s.channel c).enabled = false →
    (s.channel c).queue.length ≤ if s.sendsFor c = true then 1 else 0
  sending : ∀ c : Fin 8, s.sendsFor c = true → (s.channel c).queue ≠ []
  sweeping : s.sweep.state ≠ .idle → (s.channel s.sweep.channel).enabled = true

/-- The law of the clock (R156, R157): counts stay in range and no owner has taken a second not yet reached. -/
structure ClockLaw (s : State) : Prop where
  uptime : s.clock.uptime ≤ 4294967295
  divider : s.clock.divider < 32768
  walked : s.clock.walked ≤ s.clock.uptime
  checked : s.clock.checked ≤ s.clock.uptime
  aged : s.clock.aged ≤ s.clock.uptime

/-- What every step keeps. -/
structure Inv (s : State) : Prop where
  queues : QueueLaw s
  identities : IdentityLaw s
  estimates : EstimateLaw s
  clock : ClockLaw s

end Sys2Proof.Machine
end

