-- ==== Sys2Proof/Certificates/Slice0/Obligations.lean ====
section
/-! DEFINITION. The statements about the part, for the provers. Each docstring names the rules it rests on and any choice
of the model it depends on. Every statement about the execution of a command reads it from the oldest held entry, since
its row carries no operand: the model's choice, log entry 1. -/

open Sys2Proof Sys2Proof.Machine

/-! ## The machine as a whole -/

/-- A step takes the command at the front of the queue of waiting commands and runs its meaning on the state with the
queue's rest; the queue is the model's, log entry 13. -/
def Obligations.StepTakesFrontCommand : Prop :=
  ∀ (c : Instr) (rest : List Instr) (s : State), s.pending = c :: rest → step s = exec c (s.setPending rest)

/-- With no command waiting, a step is one oscillation of the crystal, and the 32,768th raises uptime by one unless it is
saturated; SECONDS_EVENT completes the count under way (R156; that an empty queue lets one oscillation pass and that the
row completes the count are the model's choices, log entries 3 and 4). -/
def Obligations.SecondsAreCounted : Prop :=
  (∀ s : State, s.pending = [] →
    (s.clock.divider + 1 < 32768 → step s = .next (s.setClock { s.clock with divider := s.clock.divider + 1 })) ∧
    (32768 ≤ s.clock.divider + 1 →
      step s = .next (s.setClock { s.clock with uptime := sat32 s.clock.uptime 1, divider := 0 }))) ∧
  (∀ s : State,
    exec .secondsEvent s = .next (s.setClock { s.clock with uptime := sat32 s.clock.uptime 1, divider := 0 }))

/-- Every row answers a next state in every state, since the part has no error state (R167), and no row touches the model's
own queue `pending` of rows not yet taken. That a row whose event is not due answers a next state too, that this queue
stands for what the outside does next, and that a reset keeps it are the model's choices: log entries 2, 13 and 18. -/
def Obligations.EveryCommandAnswersNext : Prop :=
  ∀ (c : Instr) (s : State), ∃ t, exec c s = .next t ∧ t.pending = s.pending

/-! ## Reception -/

/-- Whatever frame a sender writes, the receiver reads back: type, tag, body, and the bytes behind it (R162, R177). -/
def Obligations.FrameRoundTrip : Prop :=
  ∀ (noise : List Byte) (type tag : Byte) (body rest : List Byte), (∀ b ∈ noise, b ≠ 0xC3#8) → body.length ≤ 598 →
    findFrame (noise ++ frameBytes type tag body ++ rest) = .arrived type tag body (hunt rest)

/-- What a receiver discards, and what it waits for (R162): a length outside 2 to 600 ends the frame at once, a CRC
mismatch discards it, both hunt again behind the lead byte; an unfinished frame stays collected. -/
def Obligations.ReceiverDiscards : Prop :=
  ∀ noise : List Byte, (∀ b ∈ noise, b ≠ 0xC3#8) →
    findFrame noise = .collecting [] ∧
    findFrame (noise ++ [0xC3#8]) = .collecting [0xC3#8] ∧
    (∀ h : Byte, findFrame (noise ++ [0xC3#8, h]) = .collecting [0xC3#8, h]) ∧
    ∀ (h l : Byte) (more : List Byte),
      (h.toNat * 256 + l.toNat < 2 ∨ 600 < h.toNat * 256 + l.toNat →
        findFrame (noise ++ 0xC3#8 :: h :: l :: more) = .overlong (hunt (h :: l :: more))) ∧
      (2 ≤ h.toNat * 256 + l.toNat → h.toNat * 256 + l.toNat ≤ 600 → more.length < h.toNat * 256 + l.toNat + 2 →
        findFrame (noise ++ 0xC3#8 :: h :: l :: more) = .collecting (0xC3#8 :: h :: l :: more)) ∧
      (2 ≤ h.toNat * 256 + l.toNat → h.toNat * 256 + l.toNat ≤ 600 → h.toNat * 256 + l.toNat + 2 ≤ more.length →
        crc16 (h :: l :: more.take (h.toNat * 256 + l.toNat)) ≠
          BitVec.ofNat 16 (nat16At more (h.toNat * 256 + l.toNat)) →
        findFrame (noise ++ 0xC3#8 :: h :: l :: more) = .bad (hunt (h :: l :: more)))

/-- Discarded frames are counted and have no other effect than the receiver's going on (R162, R163, R175). A frame that
arrives on the planner link becomes the newest held entry while the queue holds fewer than four, and is counted "commands
overflow" otherwise (R164). That one row takes one event and the bytes behind it stay held is the model's choice, log
entry 6. -/
def Obligations.ArrivalsAndDiscards : Prop :=
  (∀ (s : State) (bytes rest : List Byte), s.link.resetLow = false →
    (findFrame (s.link.fieldHeld ++ bytes) = .bad rest →
      exec (.framesBad .field bytes) s = .next (s.setLink
        { s.link with
          fieldHeld := rest, counters := { s.link.counters with fieldBad := sat32 s.link.counters.fieldBad 1 } })) ∧
    (findFrame (s.link.plannerHeld ++ bytes) = .bad rest →
      exec (.framesBad .planner bytes) s = .next (s.setLink
        { s.link with
          plannerHeld := rest
          counters := { s.link.counters with plannerBad := sat32 s.link.counters.plannerBad 1 } })) ∧
    (findFrame (s.link.fieldHeld ++ bytes) = .overlong rest →
      exec (.framesOverlong .field bytes) s = .next (s.setLink
        { s.link with
          fieldHeld := rest
          counters := { s.link.counters with fieldOverlong := sat32 s.link.counters.fieldOverlong 1 } })) ∧
    (findFrame (s.link.plannerHeld ++ bytes) = .overlong rest →
      exec (.framesOverlong .planner bytes) s = .next (s.setLink
        { s.link with
          plannerHeld := rest
          counters := { s.link.counters with plannerOverlong := sat32 s.link.counters.plannerOverlong 1 } })) ∧
    ∀ (type tag : Byte) (body : List Byte), type ≠ 0x20#8 →
      findFrame (s.link.fieldHeld ++ bytes) = .arrived type tag body rest →
      exec (.unknownType bytes) s = .next (s.setLink
        { s.link with
          fieldHeld := rest
          counters := { s.link.counters with unknownType := sat32 s.link.counters.unknownType 1 } })) ∧
  (∀ (s : State) (bytes rest body : List Byte) (type tag : Byte), s.link.resetLow = false →
    findFrame (s.link.plannerHeld ++ bytes) = .arrived type tag body rest →
    (s.link.commands.length < 4 →
      exec (.commandArrival bytes) s = .next (s.setLink
        { s.link with
          plannerHeld := rest
          commands := s.link.commands ++ [{ type := type, tag := tag, body := body, condition := .held }] })) ∧
    (4 ≤ s.link.commands.length →
      exec (.commandArrival bytes) s = .next (s.setLink
        { s.link with
          plannerHeld := rest
          counters := { s.link.counters with commandsOverflow := sat32 s.link.counters.commandsOverflow 1 } })))

/-- While RESET_N is low both receivers pass over every byte and neither transmitter begins a frame (R173); that the row
of a begin then changes nothing is the model's choice, log entry 2. -/
def Obligations.ResetLineHoldsLinks : Prop :=
  ∀ (s : State) (bytes : List Byte) (l : Link), s.link.resetLow = true →
    exec (.capture bytes) s = .next s ∧ exec (.unknownType bytes) s = .next s ∧
    exec (.framesBad l bytes) s = .next s ∧ exec (.framesOverlong l bytes) s = .next s ∧
    exec (.commandArrival bytes) s = .next s ∧ exec .transmissionBegin s = .next s ∧
    exec .answerTransmissionBegin s = .next s

/-! ## Captures -/

/-- The six checks of a sensor frame in their order (R29), and what a good frame says: nothing but the identity, the control
byte and, for a reading, the low fourteen bits of the distance word and the battery byte enters it, so the word's top two
bits and any surplus body bytes are ignored (R30, R178). -/
def Obligations.SensorFrameChecks : Prop :=
  ∀ (limit : Nat) (f : List Byte),
    (limit < f.length → checkFrame limit f = .failed .long) ∧
    (f.length ≤ limit → f.length < 7 → checkFrame limit f = .failed .short) ∧
    (f.length ≤ limit → 7 ≤ f.length →
      (crc16 (f.take (f.length - 2)) ≠ BitVec.ofNat 16 (nat16At f (f.length - 2)) →
        checkFrame limit f = .failed .check) ∧
      (crc16 (f.take (f.length - 2)) = BitVec.ofNat 16 (nat16At f (f.length - 2)) →
        (byteAt f 4 % 16 ≠ 1 → byteAt f 4 % 16 ≠ 2 → checkFrame limit f = .failed .kind) ∧
        (byteAt f 4 % 16 = 1 → f.length < 10 → checkFrame limit f = .failed .short) ∧
        (byteAt f 4 % 16 = 2 ∨ byteAt f 4 % 16 = 1 ∧ 10 ≤ f.length →
          (identityAt f 0 = 0#32 ∨ identityAt f 0 = 0xFFFFFFFF#32 → checkFrame limit f = .failed .kind) ∧
          (identityAt f 0 ≠ 0#32 → identityAt f 0 ≠ 0xFFFFFFFF#32 →
            checkFrame limit f =
              .good
                { identity := identityAt f 0
                  seq := BitVec.ofNat 4 (byteAt f 4 / 16)
                  content :=
                    if byteAt f 4 % 16 = 1 then
                      .reading (nat16At f 5 % 4096) ((nat16At f 5).testBit 12) ((nat16At f 5).testBit 13) (byteAt f 7)
                    else .join }))))

/-- A sensor's frame is read back as the sensor wrote it, at every value of its fields; the top two bits of the distance
word and body bytes beyond the kind's length, whatever they are, change nothing of what is read (R30, R178). -/
def Obligations.SensorFrameRoundTrip : Prop :=
  (∀ (limit : Nat) (id : Identity) (seq : BitVec 4), 10 ≤ limit → id ≠ 0#32 → id ≠ 0xFFFFFFFF#32 →
    checkFrame limit (joinFrame id seq) = .good { identity := id, seq := seq, content := .join } ∧
    ∀ (distance battery : Nat) (lid tilt : Bool), distance < 4096 → battery < 256 →
      checkFrame limit (readingFrame id seq distance lid tilt battery) =
        .good { identity := id, seq := seq, content := .reading distance lid tilt battery }) ∧
  ∀ (limit : Nat) (id : Identity) (seq : BitVec 4) (surplus covered : List Byte), id ≠ 0#32 → id ≠ 0xFFFFFFFF#32 →
    covered.length + 2 ≤ limit →
    (covered = be32 id.toNat ++ byteOf (seq.toNat * 16 + 2) :: surplus →
      checkFrame limit (covered ++ be16 (crc16 covered).toNat) =
        .good { identity := id, seq := seq, content := .join }) ∧
    ∀ (top distance battery : Nat) (lid tilt : Bool), top < 4 → distance < 4096 → battery < 256 →
      covered = be32 id.toNat ++ byteOf (seq.toNat * 16 + 1) ::
        (be16 (top * 16384 + (if tilt then 8192 else 0) + (if lid then 4096 else 0) + distance) ++
          byteOf battery :: surplus) →
      checkFrame limit (covered ++ be16 (crc16 covered).toNat) =
        .good { identity := id, seq := seq, content := .reading distance lid tilt battery }

/-- The classes of the sequence window, with d = (s − e) mod 16 (R35). -/
def Obligations.SequenceWindowClasses : Prop :=
  (∀ (join : Bool) (seq : BitVec 4), windowClass none join seq = .admissible 0) ∧
  ∀ (e seq : BitVec 4) (d : Nat), d = (seq.toNat + 16 - e.toNat) % 16 →
    (d = 15 → ∀ join, windowClass (some e) join seq = .duplicate) ∧
    (d ≠ 15 → windowClass (some e) true seq = .admissible 0) ∧
    (d ≤ 7 → windowClass (some e) false seq = .admissible d) ∧
    (8 ≤ d → d ≤ 14 → windowClass (some e) false seq = .stale)

/-- CAPTURE: the delivered body is taken as a field capture, with its metadata clamped and its arrival time the uptime
of the event; a body of fewer than two bytes is an empty frame without metadata (R27), and the receiver goes on behind the
frame (R162). That the row takes one event and the bytes behind it stay held is the model's choice, log entry 6. What
takeCapture makes of the capture is stated below. -/
def Obligations.CaptureIsTaken : Prop :=
  (∀ (s : State) (bytes frame rest : List Byte) (antenna rssi : Byte), Delivers s bytes (antenna :: rssi :: frame) rest →
    exec (.capture bytes) s = .next (takeCapture
      { source := .field
        arrival := s.clock.uptime
        heard := some (min rssi.toInt 0, min antenna.toNat 3)
        frame := frame }
      (capturing s rest)).1) ∧
  ∀ (s : State) (bytes body rest : List Byte), body.length < 2 → Delivers s bytes body rest →
    exec (.capture bytes) s = .next (takeCapture
      { source := .field, arrival := s.clock.uptime, heard := none, frame := [] } (capturing s rest)).1

/-- INJECT: the body is taken as a relayed capture, its arrival time uptime minus the age and 0 when the age exceeds it;
the reply carries the outcome, the identity when the frame has four bytes, and the slot and expectation as the event
leaves them for an outcome that concerns an enrolled bin (R28). -/
def Obligations.InjectIsTaken : Prop :=
  ∀ (s : State) (age : Nat) (antenna rssi : Byte) (frame : List Byte),
    age < 65536 → frame.length ≤ 594 → Executing s 0x07#8 (injectBody age antenna rssi frame) →
    ∃ (t : State) (outcome : CaptureOutcome),
      takeCapture
        { source := .relayed
          arrival := s.clock.uptime - age
          heard := some (min rssi.toInt 0, min antenna.toNat 3)
          frame := frame }
        (injecting s) = (t, outcome) ∧
      exec .inject s = .next (t.answerHeld (.injected outcome
        (if 4 ≤ frame.length then some (identityAt frame 0) else none)
        (if outcome = .accepted ∨ outcome = .duplicate ∨ outcome = .stale ∨ outcome = .held ∨ outcome = .refused then
          (t.find (identityAt frame 0)).map fun p => (p.1, p.2.expectation)
        else none)))

/-- A capture that fails a check is counted under its verdict and raises one MALFORMED offer (R31). A good capture of a
BARRED record is refused, a duplicate and a stale reading are settled in their event; none enters the Intake Queue or moves
the expectation (R34, R35, R36, R42). -/
def Obligations.CaptureSettledAtOnce : Prop :=
  (∀ (s : State) (cap : Capture) (why : Malformed), checkFrame s.intake.captureLimit cap.frame = .failed why →
    takeCapture cap s =
      (settle
        (s.withCounters
          (match why with
          | .long => { s.intake.counters with long := sat32 s.intake.counters.long 1 }
          | .short => { s.intake.counters with short := sat32 s.intake.counters.short 1 }
          | .check => { s.intake.counters with check := sat32 s.intake.counters.check 1 }
          | .kind => { s.intake.counters with kind := sat32 s.intake.counters.kind 1 }))
        { report :=
            { unset := !s.clock.isSet
              time := stamp s.clock s.clock.uptime
              body := .malformed why cap.source cap.frame.length
                (if 4 ≤ cap.frame.length then some (identityAt cap.frame 0) else none) cap.heard }
          concerns := none },
        .malformed why)) ∧
  (∀ (s : State) (cap : Capture) (g : GoodFrame) (slot : Nat) (r : BinRecord),
    checkFrame s.intake.captureLimit cap.frame = .good g → s.find g.identity = some (slot, r) →
    (r.standing = .barred →
      takeCapture cap s =
        (answering cap.source r g.seq .refuse
          (s.withCounters { s.intake.counters with refused := sat32 s.intake.counters.refused 1 }),
        .refused)) ∧
    (r.standing ≠ .barred → windowClass r.expectation (g.content = .join) g.seq = .duplicate →
      takeCapture cap s =
        (answering cap.source r g.seq .accept
          ((s.putBin slot { r with duplicates := sat16 r.duplicates 1 }).withCounters
            { s.intake.counters with duplicates := sat32 s.intake.counters.duplicates 1 }),
        .duplicate)) ∧
    (r.standing ≠ .barred → windowClass r.expectation (g.content = .join) g.seq = .stale →
      takeCapture cap s =
        (answering cap.source r g.seq .accept
          ((s.putBin slot { r with duplicates := sat16 r.duplicates 1 }).withCounters
            { s.intake.counters with stale := sat32 s.intake.counters.stale 1 }),
        .stale)))

/-- An admissible capture that finds room is appended: the expectation, the missed count and "gaps" move with it; one that
finds no room is held or overrun, and leaves the record and the queue as they were (R37 to R40, R42). -/
def Obligations.CaptureAdmission : Prop :=
  (∀ (s : State) (cap : Capture) (g : GoodFrame) (slot gap antenna : Nat) (rssi : Int) (r : BinRecord),
    checkFrame s.intake.captureLimit cap.frame = .good g → s.find g.identity = some (slot, r) →
    r.standing ≠ .barred → windowClass r.expectation (g.content = .join) g.seq = .admissible gap →
    cap.heard = some (rssi, antenna) → s.intake.queue.length < 64 →
    (cap.source = .field → r.ackMode = .answered → s.intake.queue.length < s.intake.holdThreshold) →
    takeCapture cap s =
      (answering cap.source r g.seq .accept
        ((s.putBin slot { r with expectation := some (g.seq + 1#4), missed := sat16 r.missed gap }).setIntake
          { s.intake with
            queue := s.intake.queue ++
              [{ slot := slot, content := g.content, rssi := rssi, antenna := antenna, arrival := cap.arrival }]
            counters :=
              { s.intake.counters with
                accepted := sat32 s.intake.counters.accepted 1
                joins := if g.content = .join then sat32 s.intake.counters.joins 1 else s.intake.counters.joins
                gaps := sat32 s.intake.counters.gaps gap } }),
      .accepted)) ∧
  (∀ (s : State) (cap : Capture) (g : GoodFrame) (slot gap : Nat) (r : BinRecord),
    checkFrame s.intake.captureLimit cap.frame = .good g → s.find g.identity = some (slot, r) →
    r.standing ≠ .barred → windowClass r.expectation (g.content = .join) g.seq = .admissible gap →
    (cap.source = .field → r.ackMode = .answered →
      s.intake.holdThreshold ≤ s.intake.queue.length ∨ 64 ≤ s.intake.queue.length →
      takeCapture cap s =
        (answering .field r g.seq .hold
          (s.withCounters { s.intake.counters with held := sat32 s.intake.counters.held 1 }), .held)) ∧
    (cap.source = .field → r.ackMode = .unanswered → 64 ≤ s.intake.queue.length →
      takeCapture cap s =
        (s.withCounters { s.intake.counters with overrun := sat32 s.intake.counters.overrun 1 }, .overrun)) ∧
    (cap.source = .relayed → 64 ≤ s.intake.queue.length →
      takeCapture cap s =
        (s.withCounters { s.intake.counters with held := sat32 s.intake.counters.held 1 }, .held)))

/-- A good capture of an unknown identity updates its Stranger List entry, is appended with one STRANGER offer, or finds
the list full and is counted (R33, R109, R110, R111). -/
def Obligations.StrangerHeard : Prop :=
  ∀ (s : State) (cap : Capture) (g : GoodFrame) (antenna : Nat) (rssi : Int) (k : IntakeCounters),
    checkFrame s.intake.captureLimit cap.frame = .good g → s.find g.identity = none →
    cap.heard = some (rssi, antenna) →
    k = { s.intake.counters with strangersHeard := sat32 s.intake.counters.strangersHeard 1 } →
    ((∃ e ∈ s.strangers.entries, e.identity = g.identity) →
      takeCapture cap s =
        ((s.withCounters k).setStrangers
          { s.strangers with
            entries := s.strangers.entries.map fun e =>
              if e.identity = g.identity then
                { e with
                  lastHeard := s.clock.uptime
                  heardCount := if g.seq = e.lastSeq then e.heardCount else min (e.heardCount + 1) 255
                  lastSeq := g.seq
                  bestRssi := if e.bestRssi < rssi then rssi else e.bestRssi
                  bestAntenna := if e.bestRssi < rssi then antenna else e.bestAntenna
                  joined := e.joined || decide (g.content = .join) }
              else e },
        .stranger)) ∧
    ((∀ e ∈ s.strangers.entries, e.identity ≠ g.identity) → s.strangers.entries.length < 32 →
      takeCapture cap s =
        (settle
          ((s.withCounters k).setStrangers
            { s.strangers with
              entries := s.strangers.entries ++
                [{ identity := g.identity
                   firstHeard := s.clock.uptime
                   lastHeard := s.clock.uptime
                   heardCount := 1
                   lastSeq := g.seq
                   bestRssi := rssi
                   bestAntenna := antenna
                   joined := decide (g.content = .join) }] })
          { report :=
              { unset := !s.clock.isSet
                time := stamp s.clock s.clock.uptime
                body := .stranger g.identity (decide (g.content = .join)) g.seq rssi antenna
                  (s.strangers.entries.length + 1) }
            concerns := none },
        .stranger)) ∧
    ((∀ e ∈ s.strangers.entries, e.identity ≠ g.identity) → 32 ≤ s.strangers.entries.length →
      takeCapture cap s =
        (s.withCounters { k with strangerOverflow := sat32 k.strangerOverflow 1 }, .stranger))

/-- The Answer Queue holds sixteen: an answer made then discards the oldest and counts it; the field link transmitter
takes the oldest answer, and its completion leaves it idle (R43). -/
def Obligations.AnswerLinkMoves : Prop :=
  (∀ (a : Answer) (s : State), s.intake.answers.length < 16 →
    placeAnswer a s = s.setIntake { s.intake with answers := s.intake.answers ++ [a] }) ∧
  (∀ (a old : Answer) (rest : List Answer) (s : State), s.intake.answers = old :: rest → 16 ≤ s.intake.answers.length →
    placeAnswer a s = s.setIntake
      { s.intake with
        answers := rest ++ [a]
        counters := { s.intake.counters with answersLost := sat32 s.intake.counters.answersLost 1 } }) ∧
  (∀ (a : Answer) (rest : List Answer) (s : State), s.link.resetLow = false → s.intake.transmitter = .idle →
    s.intake.answers = a :: rest →
    exec .answerTransmissionBegin s = .next (s.setIntake
      { s.intake with
        answers := rest
        transmitter := .sending a
          (frameBytes 0x21#8 0 (be32 a.identity.toNat ++ [byteOf a.seq.toNat,
            match a.verdict with
            | .accept => 1#8
            | .hold => 2#8
            | .refuse => 3#8])) })) ∧
  ∀ (a : Answer) (frame : List Byte) (s : State), s.intake.transmitter = .sending a frame →
    exec .answerTransmissionCompletion s = .next (s.setIntake { s.intake with transmitter := .idle })

/-! ## The Bin Table -/

/-- An accepted ENROL puts a new record in the lowest vacant slot, takes the identity off the Stranger List and inherits
its sequence (R3, R14, R15, R16, R116). -/
def Obligations.EnrolCreatesRecord : Prop :=
  ∀ (s : State) (id : Identity) (profile : Fin 16) (district : Fin 32) (ackMode : AckMode) (slot : Nat),
    Executing s 0x01#8 (enrolBody id profile district ackMode.code) →
    id ≠ 0#32 → id ≠ 0xFFFFFFFF#32 → s.find id = none →
    slot < 4096 → s.bin slot = none → (∀ n, n < slot → s.bin n ≠ none) →
    exec .enrol s = .next
      (((s.setStrangers
        { s.strangers with entries := s.strangers.entries.filter fun e => e.identity != id }).putBin slot
        { identity := id
          standing := .enrolled
          profile := profile
          district := district
          ackMode := ackMode
          expectation := (s.strangers.entries.find? fun e => e.identity == id).map fun e => e.lastSeq + 1#4
          window := []
          fill := none
          rate := 0
          rateValid := false
          lastReading := none
          lastHeard := s.clock.uptime
          hours := 65535
          due := none
          band := .none
          projected := false
          lastReported := none
          battery := none
          lastRssi := none
          lastAntenna := none
          conditions := { lid := false, tilt := false, overfull := false, lapse := false }
          latches := { lid := false, tilt := false, overfull := false, lapse := false }
          rebasePending := false
          owed := 0#8
          deadline := min (s.clock.uptime + (s.profile profile).silenceLimit * 60) 4294967295
          estimated := 0
          missed := 0
          duplicates := 0
          emptied := 0
          lastEmptied := none
          enrolTime := s.clock.uptime }).answerHeld (.enrolled slot))

/-- ENROL's refusals in their order, RANGE, EXISTS, TABLE_FULL (R14); AMEND, RETIRE, BAR, UNBAR and QUERY refuse an invalid
identity with RANGE and an unknown one with NO_SUCH_BIN; a refused command changes nothing but its own entry (R13). -/
def Obligations.BinTableRefusals : Prop :=
  (∀ (s : State) (id : Identity) (profile district ackMode : Nat), profile < 256 → district < 256 → ackMode < 256 →
    Executing s 0x01#8 (enrolBody id profile district ackMode) →
    (id = 0#32 ∨ id = 0xFFFFFFFF#32 ∨ 16 ≤ profile ∨ 32 ≤ district ∨ 2 ≤ ackMode →
      exec .enrol s = .next (s.answerHeld (.refusedIdentity .range id))) ∧
    (id ≠ 0#32 → id ≠ 0xFFFFFFFF#32 → profile < 16 → district < 32 → ackMode < 2 →
      (s.find id ≠ none → exec .enrol s = .next (s.answerHeld (.refusedIdentity .alreadyExists id))) ∧
      (s.find id = none → (∀ n, n < 4096 → s.bin n ≠ none) →
        exec .enrol s = .next (s.answerHeld (.refusedIdentity .tableFull id))))) ∧
  (∀ (s : State) (id : Identity) (profile district ackMode : Option Nat) (st : Status),
    ((id = 0#32 ∨ id = 0xFFFFFFFF#32) ∧ st = .range ∨
      id ≠ 0#32 ∧ id ≠ 0xFFFFFFFF#32 ∧ s.find id = none ∧ st = .noSuchBin) →
    (Executing s 0x02#8 (amendBody id profile district ackMode) →
      exec .amend s = .next (s.answerHeld (.refusedIdentity st id))) ∧
    (Executing s 0x03#8 (identityBody id) → exec .retire s = .next (s.answerHeld (.refusedIdentity st id))) ∧
    (Executing s 0x04#8 (identityBody id) → exec .bar s = .next (s.answerHeld (.refusedIdentity st id))) ∧
    (Executing s 0x05#8 (identityBody id) → exec .unbar s = .next (s.answerHeld (.refusedIdentity st id))) ∧
    (Executing s 0x06#8 (identityBody id) → exec .query s = .next (s.answerHeld (.refusedIdentity st id))))

/-- AMEND refuses a present field outside its encoding; otherwise, where the profile stays, it replaces the district and
the ack mode that are present and nothing else (R17). -/
def Obligations.AmendWithoutProfile : Prop :=
  ∀ (s : State) (id : Identity) (profile district ackMode : Option Nat) (slot : Nat) (r : BinRecord),
    Executing s 0x02#8 (amendBody id profile district ackMode) →
    id ≠ 0#32 → id ≠ 0xFFFFFFFF#32 → s.find id = some (slot, r) →
    (∀ n ∈ profile, n < 256) → (∀ n ∈ district, n < 256) → (∀ n ∈ ackMode, n < 256) →
    ((∃ n ∈ profile, 16 ≤ n) ∨ (∃ n ∈ district, 32 ≤ n) ∨ (∃ n ∈ ackMode, 2 ≤ n) →
      exec .amend s = .next (s.answerHeld (.refusedIdentity .range id))) ∧
    ((∀ n ∈ profile, n = r.profile.val) → (∀ n ∈ district, n < 32) → (∀ n ∈ ackMode, n < 2) →
      exec .amend s = .next
        ((s.putBin slot
          { r with
            district := (district.map (Fin.ofNat 32)).getD r.district
            ackMode := (ackMode.map fun n => if n = 1 then .answered else .unanswered).getD r.ackMode }).answerHeld
          (.done id)))

/-- AMEND to another profile marks rebase pending when a depth differs; unless the record is BARRED it projects anew with
the last reading time as base, sets the band and raises the band offer (R18, R79). -/
def Obligations.AmendChangesProfile : Prop :=
  ∀ (s : State) (id : Identity) (profile : Fin 16) (district ackMode : Option Nat) (slot : Nat) (r r1 : BinRecord),
    Executing s 0x02#8 (amendBody id (some profile.val) district ackMode) →
    id ≠ 0#32 → id ≠ 0xFFFFFFFF#32 → s.find id = some (slot, r) → profile ≠ r.profile →
    (∀ n ∈ district, n < 32) → (∀ n ∈ ackMode, n < 2) →
    r1 =
      { r with
        profile := profile
        district := (district.map (Fin.ofNat 32)).getD r.district
        ackMode := (ackMode.map fun n => if n = 1 then .answered else .unanswered).getD r.ackMode
        rebasePending := r.rebasePending ||
          decide ((s.profile r.profile).emptyDepth ≠ (s.profile profile).emptyDepth ∨
            (s.profile r.profile).fullDepth ≠ (s.profile profile).fullDepth) } →
    (r.standing = .barred → exec .amend s = .next ((s.putBin slot r1).answerHeld (.done id))) ∧
    ∀ (base hours : Nat) (due : Option Nat) (band : Band) (projected : Bool) (r2 : BinRecord),
      r.standing ≠ .barred → (r.lastReading = some base ∨ r.fill = none ∧ r.conditions.overfull = false) →
      project r.fill r.conditions.overfull r.rate r.rateValid (s.profile profile).threshold base = (hours, due) →
      bandOf hours due s.clock.uptime s.soonHorizon = (band, projected) →
      (r.fill = none → r.rateValid = false) →
      r2 = { r1 with hours := hours, due := due, band := band, projected := projected } →
      exec .amend s = .next
        ((settleAll (offersOf s.clock s.clock.uptime slot r2 (bandOffer r.band band)) (s.putBin slot r2)).answerHeld
          (.done id))

/-- RETIRE purges the record's Intake Queue entries, detaches its copies and vacates its slot; nothing else changes (R19,
R20, R121). -/
def Obligations.RetireEndsRecord : Prop :=
  ∀ (s : State) (id : Identity) (slot : Nat) (r : BinRecord), Executing s 0x03#8 (identityBody id) →
    id ≠ 0#32 → id ≠ 0xFFFFFFFF#32 → s.find id = some (slot, r) →
    exec .retire s = .next
      ((((s.setIntake
        { s.intake with
          queue := s.intake.queue.filter fun e => e.slot != slot
          counters :=
            { s.intake.counters with
              purged := sat32 s.intake.counters.purged
                (s.intake.queue.filter fun e => e.slot == slot).length } }).setReports
        { s.reports with
          channels := s.reports.channels.map fun ch =>
            { ch with
              queue := ch.queue.map fun k =>
                if k.ref = .attached slot then { k with ref := .detached } else k } }).setBins
        (s.bins.filter fun p => p.1 != slot)).answerHeld
        (.retired id slot (s.intake.queue.filter fun e => e.slot == slot).length))

/-- BAR on a record that is not BARRED sets the state and the band and purges its entries; on a BARRED record it changes
nothing (R19, R21). -/
def Obligations.BarStopsRecord : Prop :=
  ∀ (s : State) (id : Identity) (slot : Nat) (r : BinRecord), Executing s 0x04#8 (identityBody id) →
    id ≠ 0#32 → id ≠ 0xFFFFFFFF#32 → s.find id = some (slot, r) →
    (r.standing = .barred → exec .bar s = .next (s.answerHeld (.barred id 0))) ∧
    (r.standing ≠ .barred →
      exec .bar s = .next
        (((s.setIntake
          { s.intake with
            queue := s.intake.queue.filter fun e => e.slot != slot
            counters :=
              { s.intake.counters with
                purged := sat32 s.intake.counters.purged
                  (s.intake.queue.filter fun e => e.slot == slot).length } }).putBin slot
          { r with standing := .barred, band := .none }).answerHeld
          (.barred id (s.intake.queue.filter fun e => e.slot == slot).length)))

/-- UNBAR on a BARRED record revives it, restarts its deadline, clears LAPSE and sets the band from the stored projection;
on another record it changes nothing (R22, R80). -/
def Obligations.UnbarRevivesRecord : Prop :=
  ∀ (s : State) (id : Identity) (slot : Nat) (r r1 : BinRecord), Executing s 0x05#8 (identityBody id) →
    id ≠ 0#32 → id ≠ 0xFFFFFFFF#32 → s.find id = some (slot, r) →
    (r.standing ≠ .barred → exec .unbar s = .next (s.answerHeld (.done id))) ∧
    (r.standing = .barred →
      r1 =
        { r with
          standing := if r.fill = none then .enrolled else .active
          lastHeard := s.clock.uptime
          conditions := { r.conditions with lapse := false }
          deadline := min (s.clock.uptime + (s.profile r.profile).silenceLimit * 60) 4294967295
          band := (bandOf r.hours r.due s.clock.uptime s.soonHorizon).1
          projected := (bandOf r.hours r.due s.clock.uptime s.soonHorizon).2 } →
      exec .unbar s = .next
        ((settleAll (offersOf s.clock s.clock.uptime slot r1 (bandOffer r.band r1.band)) (s.putBin slot r1)).answerHeld
          (.done id)))

/-- QUERY, STRANGERS and STATUS answer with what stands and change nothing but their own entry (R23, R114, R169). -/
def Obligations.ReadingCommandsChangeNothing : Prop :=
  (∀ (s : State) (id : Identity) (slot : Nat) (r : BinRecord), Executing s 0x06#8 (identityBody id) →
    id ≠ 0#32 → id ≠ 0xFFFFFFFF#32 → s.find id = some (slot, r) →
    exec .query s = .next (s.answerHeld
      (.record (!s.clock.isSet) (summaryOf s.clock slot r) (detailOf s.clock r) r.window))) ∧
  (∀ s : State, Executing s 0x0C#8 [] →
    exec .strangers s = .next (s.answerHeld
      (.strangers (!s.clock.isSet) (s.strangers.entries.map fun e =>
        { e with firstHeard := stamp s.clock e.firstHeard, lastHeard := stamp s.clock e.lastHeard })))) ∧
  ∀ s : State, Executing s 0x13#8 [] →
    exec .status s = .next (s.answerHeld
      (.status
        { uptime := s.clock.uptime
          isSet := s.clock.isSet
          offset := s.clock.offset
          lastReset := s.link.lastReset
          occupied := s.bins.length
          strangers := s.strangers.entries.length
          intakeLength := s.intake.queue.length
          commandLength := s.link.commands.length
          poolFree := 256 - s.queued
          channels := [0, 1, 2, 3, 4, 5, 6, 7].map fun c : Fin 8 =>
            { enabled := (s.channel c).enabled
              credit := (s.channel c).credit
              length := (s.channel c).queue.length }
          sweepState := s.sweep.state
          cursor := s.sweep.cursor
          lastEnd := s.sweep.lastEnd
          items :=
            { holdThreshold := s.intake.holdThreshold
              captureLimit := s.intake.captureLimit
              soonHorizon := s.soonHorizon
              strangerAge := s.strangers.age
              arbitration := s.reports.arbitration } }))

/-! ## Fill Estimation -/

/-- PROFILE-GET (R54). -/
def Obligations.ProfileGetReads : Prop :=
  ∀ (s : State) (index : Nat), index < 256 → Executing s 0x09#8 (profileGetBody index) →
    (∀ i : Fin 16, index = i → exec .profileGet s = .next (s.answerHeld (.profile .ok i (s.profile i)))) ∧
    (16 ≤ index → exec .profileGet s = .next (s.answerHeld (.refusedIndex .range (BitVec.ofNat 8 index))))

/-- PROFILE-SET refuses an index, a median filter value or a full depth outside its range, clamps the other parameters,
stores all nine, and marks rebase pending on the profile's records when a depth changed (R51, R52). -/
def Obligations.ProfileSetStores : Prop :=
  ∀ (s : State) (index median : Nat) (p q : Profile), index < 256 → median < 256 →
    p.emptyDepth < 65536 → p.fullDepth < 65536 → p.threshold < 65536 → p.fillWeight < 256 → p.rateWeight < 256 →
    p.emptiedDrop < 65536 → p.reportStep < 65536 → p.silenceLimit < 65536 →
    q =
      { emptyDepth := max 100 (min 4000 p.emptyDepth)
        fullDepth := p.fullDepth
        threshold := max 100 (min 1000 p.threshold)
        fillWeight := max 1 (min 16 p.fillWeight)
        rateWeight := max 1 (min 16 p.rateWeight)
        median := decide (median = 1)
        emptiedDrop := max 50 (min 1000 p.emptiedDrop)
        reportStep := max 10 (min 500 p.reportStep)
        silenceLimit := max 10 (min 10080 p.silenceLimit) } →
    Executing s 0x08#8 (profileSetBody index median p) →
    (16 ≤ index ∨ 2 ≤ median ∨ q.emptyDepth < q.fullDepth + 50 →
      exec .profileSet s = .next (s.answerHeld (.refusedIndex .range (BitVec.ofNat 8 index)))) ∧
    ∀ i : Fin 16, index = i → median < 2 → q.fullDepth + 50 ≤ q.emptyDepth →
      exec .profileSet s = .next
        (((s.setProfiles (s.profiles.set i q)).setBins
          (s.bins.map fun b =>
            (b.1,
              if b.2.profile = i ∧
                  ((s.profile i).emptyDepth ≠ q.emptyDepth ∨ (s.profile i).fullDepth ≠ q.fullDepth) then
                { b.2 with rebasePending := true }
              else b.2))).answerHeld
          (.profile (if { p with median := decide (median = 1) } = q then .ok else .clamped) i q))

/-- What every estimation makes of the record before the entry's kind is looked at: the time t and stage 1 (R56, R57,
R58); what a condition's rise and fall do (R59, R98); the raw fill (R61). -/
def Obligations.EstimationFirstStages : Prop :=
  (∀ (p : Profile) (r : BinRecord) (e : IntakeEntry) (t : Nat),
    (∀ last, r.lastReading = some last → t = max e.arrival last) → (r.lastReading = none → t = e.arrival) →
    estimationTime r e = t ∧
    stageHeard p t e r =
      { r with
        lastHeard := t
        lastRssi := some e.rssi
        lastAntenna := some e.antenna
        deadline := min (t + p.silenceLimit * 60) 4294967295
        conditions := { r.conditions with lapse := false }
        estimated := sat16 r.estimated 1
        standing :=
          match e.content with
          | .join => if r.fill = none then .enrolled else .active
          | .reading d _ _ _ => if r.fill = none ∧ d = 0 then .enrolled else .active }) ∧
  (∀ (a : Alarm) (present : Bool) (r : BinRecord),
    (judgeCondition a present r).1 =
      { r with
        conditions := r.conditions.put a present
        latches :=
          if present = true ∧ r.conditions.has a = false then r.latches.put a true else r.latches } ∧
    (judgeCondition a present r).2 =
      if present = true ∧ r.conditions.has a = false ∧ r.latches.has a = false then [.alarm a] else []) ∧
  (∀ (lid tilt : Bool) (battery : Nat) (r : BinRecord),
    stageFlags lid tilt battery r =
      ((judgeCondition .tilt tilt (judgeCondition .lid lid { r with battery := some (min battery 100) }).1).1,
        (judgeCondition .lid lid r).2 ++ (judgeCondition .tilt tilt r).2)) ∧
  ∀ (p : Profile) (d : Nat), 1 ≤ d → p.fullDepth < p.emptyDepth →
    (d ≤ p.fullDepth → rawFill p d = 1000) ∧
    (p.emptyDepth ≤ d → rawFill p d = 0) ∧
    (p.fullDepth ≤ d → d ≤ p.emptyDepth →
      rawFill p d = (p.emptyDepth - d) * 1000 / (p.emptyDepth - p.fullDepth))

/-- The estimation of a join ends after stage 1, that of a blind reading after stage 2, counted "blind" (R55, R58,
R60). -/
def Obligations.EstimationOfJoinOrBlind : Prop :=
  ∀ (s : State) (e : IntakeEntry) (rest : List IntakeEntry) (r r1 : BinRecord),
    s.intake.queue = e :: rest → s.bin e.slot = some r → r.standing ≠ .barred →
    r1 = stageHeard (s.profile r.profile) (estimationTime r e) e r →
    (e.content = .join →
      exec .estimation s = .next ((s.setIntake { s.intake with queue := rest }).putBin e.slot r1)) ∧
    ∀ (lid tilt : Bool) (battery : Nat) (r2 : BinRecord) (raised : List Raised),
      e.content = .reading 0 lid tilt battery → stageFlags lid tilt battery r1 = (r2, raised) →
      exec .estimation s = .next
        (settleAll (offersOf s.clock s.clock.uptime e.slot r2 raised)
          ((s.setIntake
            { s.intake with
              queue := rest
              counters := { s.intake.counters with blind := sat32 s.intake.counters.blind 1 } }).putBin e.slot r2))

/-- The estimation of a non-blind reading, stages 3 to 11 in their order: OVERFULL, then first reading or rebase, or
collection, or smoothing with its rate sample, then projection and band, then the fill report; its offers in the order
ALARM, EMPTIED or FILL, band offer (R55, R61 to R65, R67 to R71). -/
def Obligations.EstimationOfReading : Prop :=
  ∀ (s : State) (e : IntakeEntry) (rest : List IntakeEntry) (r flagged full measured reported : BinRecord)
    (p : Profile) (t raw d battery : Nat) (lid tilt : Bool) (alarms overfull report : List Raised),
    s.intake.queue = e :: rest → s.bin e.slot = some r → r.standing ≠ .barred →
    e.content = .reading d lid tilt battery → d ≠ 0 →
    p = s.profile r.profile → t = estimationTime r e → raw = rawFill p d →
    stageFlags lid tilt battery (stageHeard p t e r) = (flagged, alarms) →
    judgeCondition .overfull (decide (d < p.fullDepth)) flagged = (full, overfull) →
    -- stages 5 to 8: which one takes the reading, and what it leaves
    ((r.fill = none ∨ r.rebasePending = true) ∧
        measured =
          { full with
            fill := some raw, window := [raw], rate := 0, rateValid := false, rebasePending := false
            lastReading := some t } ∨
      (∃ old, r.fill = some old ∧ r.rebasePending = false ∧ raw + p.emptiedDrop ≤ old ∧
        measured =
          { full with
            fill := some raw, window := [raw], rate := 0, rateValid := false, lastReading := some t
            emptied := sat16 r.emptied 1, lastEmptied := some t, lastReported := some raw }) ∨
      (∃ old new last, r.fill = some old ∧ r.rebasePending = false ∧ old < raw + p.emptiedDrop ∧
        r.lastReading = some last ∧ new = blend old (candidate p.median ((raw :: r.window).take 3)) p.fillWeight ∧
        measured =
          { full with
            window := (raw :: r.window).take 3
            fill := some new
            lastReading := some t
            rate :=
              if 604800 < t - last then r.rate
              else if r.rateValid then blend r.rate (rateSample old new (t - last)) p.rateWeight
              else rateSample old new (t - last)
            rateValid := r.rateValid || decide (t - last ≤ 604800) })) →
    -- stage 11, unless stage 6 raised EMPTIED
    (∀ f, measured.fill = some f →
      (r.fill ≠ none ∧ r.rebasePending = false ∧ raw + p.emptiedDrop ≤ r.fill.getD 0 →
        reported = measured ∧ report = [.emptied (r.fill.getD 0)]) ∧
      (¬(r.fill ≠ none ∧ r.rebasePending = false ∧ raw + p.emptiedDrop ≤ r.fill.getD 0) →
        (r.lastReported = none ∨ (∃ last, r.lastReported = some last ∧ (p.reportStep : Int) ≤ |(f : Int) - last|) →
          reported = { measured with lastReported := some f } ∧ report = [.fill]) ∧
        ((∃ last, r.lastReported = some last ∧ |(f : Int) - last| < (p.reportStep : Int)) →
          reported = measured ∧ report = []))) →
    -- stages 9 and 10, and the offers
    ∀ (hours : Nat) (due : Option Nat) (band : Band) (projected : Bool) (z : BinRecord),
      project measured.fill measured.conditions.overfull measured.rate measured.rateValid p.threshold t = (hours, due) →
      bandOf hours due s.clock.uptime s.soonHorizon = (band, projected) →
      z = { reported with hours := hours, due := due, band := band, projected := projected } →
      exec .estimation s = .next
        (settleAll (offersOf s.clock s.clock.uptime e.slot z (alarms ++ overfull ++ report ++ bandOffer r.band band))
          ((s.setIntake { s.intake with queue := rest }).putBin e.slot z))

/-- The candidate of smoothing and the rate sample (R65, R67): with the median filter the middle of three or the lower of
two, without it the newest; the sample is 57,600 times the rise over the interval, at least 60 s, truncated toward zero
and held to 0 to 16,000. The adjustment of both: the difference times the weight, over 16, rounded to nearest with ties
away from zero; it never passes its target (R66, R68). -/
def Obligations.SmoothingArithmetic : Prop :=
  ((∀ a b c : Nat,
    candidate false [a, b] = a ∧ candidate false [a, b, c] = a ∧ candidate true [a, b] = min a b ∧
    (min a (min b c) ≤ candidate true [a, b, c] ∧ candidate true [a, b, c] ≤ max a (max b c)) ∧
    (a ≤ b → b ≤ c → candidate true [a, b, c] = b ∧ candidate true [b, a, c] = b ∧ candidate true [a, c, b] = b ∧
      candidate true [b, c, a] = b ∧ candidate true [c, a, b] = b ∧ candidate true [c, b, a] = b)) ∧
  ∀ old new dt : Nat,
    (new ≤ old → rateSample old new dt = 0) ∧
    (old ≤ new → 60 ≤ dt → rateSample old new dt = min ((new - old) * 57600 / dt) 16000) ∧
    (old ≤ new → dt < 60 → rateSample old new dt = min ((new - old) * 57600 / 60) 16000)) ∧
  (∀ (old target w : Nat) (x : Int), w ≤ 16 → x = ((target : Int) - old) * w →
    (0 ≤ x → (blend old target w : Int) = old + (x + 8) / 16) ∧
    (x < 0 → (blend old target w : Int) = old - (-x + 8) / 16) ∧
    min old target ≤ blend old target w ∧ blend old target w ≤ max old target ∧ blend old target 16 = target)

/-! ## Projection and the Urgency List -/

/-- The projection: due at once at the threshold or when OVERFULL, none without a rate, otherwise the ceiling of the hours
the rest takes (R73); the band function and the band offers (R74, R75). -/
def Obligations.ProjectionAndBand : Prop :=
  (∀ (fill : Option Nat) (overfull : Bool) (rate : Nat) (valid : Bool) (threshold base : Nat),
    (overfull = true ∨ (∃ f, fill = some f ∧ threshold ≤ f) →
      project fill overfull rate valid threshold base = (0, some base)) ∧
    (overfull = false → (∀ f, fill = some f → f < threshold) → valid = false ∨ rate = 0 →
      project fill overfull rate valid threshold base = (65535, none)) ∧
    (∀ f hours, overfull = false → fill = some f → f < threshold → valid = true → 1 ≤ rate →
      hours ≤ 65534 → (threshold - f) * 16 ≤ hours * rate → (hours - 1) * rate < (threshold - f) * 16 →
      project fill overfull rate valid threshold base = (hours, some (min (base + hours * 3600) 4294967295)))) ∧
  ((∀ (due : Option Nat) (uptime horizon : Nat), bandOf 0 due uptime horizon = (.due, false) ∧
    bandOf 65535 due uptime horizon = (.none, false)) ∧
  (∀ hours due uptime horizon : Nat, hours ≠ 0 → hours ≠ 65535 →
    (due ≤ uptime → bandOf hours (some due) uptime horizon = (.due, true)) ∧
    (uptime < due → due ≤ uptime + horizon → bandOf hours (some due) uptime horizon = (.soon, false)) ∧
    (uptime + horizon < due → bandOf hours (some due) uptime horizon = (.later, false))) ∧
  (∀ before : Band, before ≠ .due → bandOffer before .due = [.due]) ∧
  (∀ before : Band, before = .later ∨ before = .none → bandOffer before .soon = [.soon]) ∧
  bandOffer .due .due = [] ∧ bandOffer .soon .soon = [] ∧ bandOffer .due .soon = [] ∧
  ∀ before : Band, bandOffer before .later = [] ∧ bandOffer before .none = [])

/-- Both lists, computed views of the records (log entry 8), in every state whose Bin Table is canonical (R76, R91): the Urgency List holds every occupied, non-barred
record with a band and a due time exactly once and no other, by due time and then slot; the Silence List every ENROLLED or
ACTIVE record, by deadline and then slot. -/
def Obligations.OrderedLists : Prop :=
  ∀ s : State, tableWf s.bins = true →
    (∀ d n, (d, n) ∈ s.urgencyList ↔ ∃ r, s.bin n = some r ∧ OnUrgencyList r ∧ r.due = some d) ∧
    (s.urgencyList.Pairwise fun x y => x.1 < y.1 ∨ x.1 = y.1 ∧ x.2 < y.2) ∧
    (∀ d n, (d, n) ∈ s.silenceList ↔ ∃ r, s.bin n = some r ∧ OnSilenceList r ∧ r.deadline = d) ∧
    s.silenceList.Pairwise fun x y => x.1 < y.1 ∨ x.1 = y.1 ∧ x.2 < y.2

/-- The seconds walk of the next second U the Urgency List has not taken: each listed record due at or before U becomes
DUE by projection, each LATER record due by U + H becomes SOON, nothing else of any record changes, and the offers are
settled in list order with U as their time (R81, R82, R157; how the seconds taken are counted is the model's, log entry
5). -/
def Obligations.SecondsWalkPromotes : Prop :=
  ∀ (s : State) (u : Nat), tableWf s.bins = true → s.clock.walked < s.clock.uptime → u = s.clock.walked + 1 →
    ∃ bins : SlotTable BinRecord,
      (∀ n, tableGet bins n = (s.bin n).map fun r =>
        match r.due with
        | none => r
        | some d =>
          if r.standing = .barred ∨ r.band = .none ∨ r.band = .due ∨ u + s.soonHorizon < d then r
          else if d ≤ u then { r with band := .due, projected := true }
          else if r.band = .later then { r with band := .soon }
          else r) ∧
      exec .secondsWalk s = .next
        (settleAll
          (s.urgencyList.flatMap fun k =>
            match s.bin k.2, tableGet bins k.2 with
            | some before, some after =>
              if k.1 ≤ u + s.soonHorizon then offersOf s.clock u k.2 after (bandOffer before.band after.band) else []
            | _, _ => [])
          ((s.setClock { s.clock with walked := u }).setBins bins))

/-- LIST: RANGE for a minimum band that is none of the three; otherwise the first matching entries of the Urgency List,
up to the maximum brought to 1 to 32, and the more flag (R88, R89, R90). -/
def Obligations.ListReturnsMatching : Prop :=
  ∀ (s : State) (maximum minimum taken : Nat) (profiles : BitVec 16) (districts : BitVec 32),
    maximum < 256 → minimum < 256 → taken = max 1 (min 32 maximum) →
    Executing s 0x0A#8 (listBody maximum profiles districts minimum) →
    (minimum = 0 ∨ 4 ≤ minimum → exec .list s = .next (s.answerHeld (.refused .range))) ∧
    ∀ found : List (Nat × BinRecord), 1 ≤ minimum → minimum ≤ 3 →
      found = (s.urgencyList.filterMap fun k => (s.bin k.2).map fun r => (k.1, r)).filter (fun p =>
        profiles.getLsbD p.2.profile && districts.getLsbD p.2.district &&
          (p.2.band == .due || p.2.band == .soon && minimum ≤ 2 || p.2.band == .later && minimum == 1)) →
      exec .list s = .next (s.answerHeld
        (.listing (if maximum = taken then .ok else .clamped) (!s.clock.isSet) (decide (taken < found.length))
          ((found.take taken).map fun p =>
            { identity := p.2.identity
              band := p.2.band
              projected := p.2.projected
              overfull := p.2.conditions.overfull
              fill := p.2.fill.getD 0
              hours := p.2.hours
              due := stamp s.clock p.1
              standing := p.2.standing })))

/-! ## Silence deadlines and alarms -/

/-- The silence check of the next second U the Silence List has not taken: each listed record whose deadline is at or
before U becomes SILENT with LAPSE present and latched, and a latch that was clear raises one ALARM, in list order with U
as its time (R94, R95, R157; how the seconds taken are counted is the model's, log entry 5). -/
def Obligations.SilenceCheckExpires : Prop :=
  ∀ (s : State) (u : Nat), tableWf s.bins = true → s.clock.checked < s.clock.uptime → u = s.clock.checked + 1 →
    ∃ bins : SlotTable BinRecord,
      (∀ n, tableGet bins n = (s.bin n).map fun r =>
        if OnSilenceList r ∧ r.deadline ≤ u then
          { r with
            standing := .silent
            conditions := { r.conditions with lapse := true }
            latches := { r.latches with lapse := true } }
        else r) ∧
      exec .silenceCheck s = .next
        (settleAll
          (s.silenceList.flatMap fun k =>
            match s.bin k.2, tableGet bins k.2 with
            | some before, some after =>
              if k.1 ≤ u ∧ before.latches.lapse = false then offersOf s.clock u k.2 after [.alarm .lapse] else []
            | _, _ => [])
          ((s.setClock { s.clock with checked := u }).setBins bins))

/-- CLEAR-ALARMS: its refusals in order; accepted, it clears the named latches whose condition is absent and nothing else,
and replies PERSISTING when a named latch stays set (R101, R102). -/
def Obligations.ClearAlarmsClears : Prop :=
  ∀ (s : State) (id : Identity) (mask : Nat), mask < 256 → Executing s 0x0B#8 (clearAlarmsBody id mask) →
    (id = 0#32 ∨ id = 0xFFFFFFFF#32 ∨ 16 ≤ mask →
      exec .clearAlarms s = .next (s.answerHeld (.refusedIdentity .range id))) ∧
    (id ≠ 0#32 → id ≠ 0xFFFFFFFF#32 → mask < 16 → s.find id = none →
      exec .clearAlarms s = .next (s.answerHeld (.refusedIdentity .noSuchBin id))) ∧
    ∀ (slot : Nat) (r : BinRecord) (latches : AlarmSet), id ≠ 0#32 → id ≠ 0xFFFFFFFF#32 → mask < 16 →
      s.find id = some (slot, r) →
      latches =
        { lid := r.latches.lid && !(mask.testBit 0 && !r.conditions.lid)
          tilt := r.latches.tilt && !(mask.testBit 1 && !r.conditions.tilt)
          overfull := r.latches.overfull && !(mask.testBit 2 && !r.conditions.overfull)
          lapse := r.latches.lapse && !(mask.testBit 3 && !r.conditions.lapse) } →
      exec .clearAlarms s = .next
        ((s.putBin slot { r with latches := latches }).answerHeld
          (.alarms
            (if mask.testBit 0 && latches.lid || mask.testBit 1 && latches.tilt || mask.testBit 2 && latches.overfull ||
                mask.testBit 3 && latches.lapse then .persisting else .ok)
            id latches r.conditions))

/-! ## The Stranger List -/

/-- The stranger aging of the next second U the Stranger List has not taken removes every entry whose last heard time plus
the stranger age is at or before U, keeps the others in order, and changes nothing else but which second was taken (R112,
R157; how the seconds taken are counted is the model's, log entry 5). None of the three owners' rows is taken while no
seconds event waits for its owner (R157; that such a row then changes nothing is the model's choice, log entry 2). -/
def Obligations.StrangerAgingRemoves : Prop :=
  (∀ (s : State) (u : Nat), s.clock.aged < s.clock.uptime → u = s.clock.aged + 1 →
    exec .strangerAging s = .next
      ((s.setClock { s.clock with aged := u }).setStrangers
        { s.strangers with entries := s.strangers.entries.filter fun e => decide (u < e.lastHeard + s.strangers.age) })) ∧
  (∀ s : State,
    (s.clock.uptime ≤ s.clock.walked → exec .secondsWalk s = .next s) ∧
    (s.clock.uptime ≤ s.clock.checked → exec .silenceCheck s = .next s) ∧
    (s.clock.uptime ≤ s.clock.aged → exec .strangerAging s = .next s))

/-- DISMISS: RANGE, NO_SUCH_BIN, or the entry is removed and returned with its times converted (R115). -/
def Obligations.DismissRemovesEntry : Prop :=
  ∀ (s : State) (id : Identity), Executing s 0x0D#8 (identityBody id) →
    (id = 0#32 ∨ id = 0xFFFFFFFF#32 → exec .dismiss s = .next (s.answerHeld (.refusedIdentity .range id))) ∧
    (id ≠ 0#32 → id ≠ 0xFFFFFFFF#32 → (∀ e ∈ s.strangers.entries, e.identity ≠ id) →
      exec .dismiss s = .next (s.answerHeld (.refusedIdentity .noSuchBin id))) ∧
    ∀ (before after : List StrangerEntry) (e : StrangerEntry), id ≠ 0#32 → id ≠ 0xFFFFFFFF#32 → e.identity = id →
      s.strangers.entries = before ++ e :: after →
      (∀ x ∈ before, x.identity ≠ id) → (∀ x ∈ after, x.identity ≠ id) →
      exec .dismiss s = .next
        ((s.setStrangers { s.strangers with entries := before ++ after }).answerHeld
          (.dismissed (!s.clock.isSet)
            { e with firstHeard := stamp s.clock e.firstHeard, lastHeard := stamp s.clock e.lastHeard }))

/-! ## Report Channels -/

/-- What a report carries (R120, R158): times are converted under the clock as it stands, the summary is the record's, and
each raised offer carries it with what its kind adds (R71, R75, R99); the record detail of SNAPSHOT and QUERY is the
record's every field but the window, its times converted (R23, R120, R180). All nine kinds: what a channel subscribes to
and its bit (none for SNAPSHOT and SWEEP_END), the priorities, and which kinds carry a bin summary (R119, R120, R179). -/
def Obligations.ReportContents : Prop :=
  (∀ (c : Clock) (time slot : Nat) (r : BinRecord) (b : Summary),
    (c.isSet = true → stamp c time = (time + c.offset.toNat) % 4294967296) ∧
    (c.isSet = false → stamp c time = time) ∧
    (b =
      { identity := r.identity
        slot := slot
        profile := r.profile
        district := r.district
        standing := r.standing
        fill := r.fill
        band := r.band
        projected := r.projected
        hours := r.hours
        due := r.due.map (stamp c)
        conditions := r.conditions } →
      summaryOf c slot r = b ∧
      ∀ (a : Alarm) (previous : Nat),
        offersOf c time slot r [.alarm a, .emptied previous, .fill, .soon, .due] =
          [ReportBody.alarm b a r.latches, .emptied b previous r.emptied, .fill b, .soon b, .due b].map fun body =>
            { report := { unset := !c.isSet, time := stamp c time, body := body }, concerns := some slot }) ∧
    detailOf c r =
      { ackMode := r.ackMode
        expectation := r.expectation
        rateValid := r.rateValid
        rebasePending := r.rebasePending
        rate := r.rate
        lastReading := r.lastReading.map (stamp c)
        lastHeard := stamp c r.lastHeard
        lastReported := r.lastReported
        battery := r.battery
        lastRssi := r.lastRssi
        lastAntenna := r.lastAntenna
        latches := r.latches
        owed := r.owed
        deadline := stamp c r.deadline
        estimated := r.estimated
        missed := r.missed
        duplicates := r.duplicates
        emptied := r.emptied
        lastEmptied := r.lastEmptied.map (stamp c)
        enrolTime := stamp c r.enrolTime }) ∧
  ((∀ b : Summary, ∀ x ∈
      [(ReportBody.fill b, ChannelKind.fill, Priority.low), (.soon b, .soon, .normal), (.due b, .due, .high)],
    x.1.channelKind = some x.2.1 ∧ x.1.priority = x.2.2 ∧ x.1.summary = some b) ∧
  (∀ (b : Summary) (previous count : Nat), (ReportBody.emptied b previous count).channelKind = some .emptied ∧
    (ReportBody.emptied b previous count).priority = .normal ∧
    (ReportBody.emptied b previous count).summary = some b) ∧
  (∀ (b : Summary) (a : Alarm) (latches : AlarmSet), (ReportBody.alarm b a latches).channelKind = some .alarm ∧
    (ReportBody.alarm b a latches).priority = .high ∧ (ReportBody.alarm b a latches).summary = some b) ∧
  (∀ (why : Malformed) (source : Source) (length : Nat) (id : Option Identity) (heard : Option (Int × Nat)),
    (ReportBody.malformed why source length id heard).channelKind = some .malformed ∧
    (ReportBody.malformed why source length id heard).priority = .low ∧
    (ReportBody.malformed why source length id heard).summary = none) ∧
  (∀ (id : Identity) (join : Bool) (seq : BitVec 4) (rssi : Int) (antenna count : Nat),
    (ReportBody.stranger id join seq rssi antenna count).channelKind = some .stranger ∧
    (ReportBody.stranger id join seq rssi antenna count).priority = .normal ∧
    (ReportBody.stranger id join seq rssi antenna count).summary = none) ∧
  (∀ (b : Summary) (d : Detail), (ReportBody.snapshot b d).channelKind = none ∧
    (ReportBody.snapshot b d).priority = .normal ∧ (ReportBody.snapshot b d).summary = some b) ∧
  (∀ (reason : PendingEnd) (c : Fin 8) (visited emitted : Nat),
    (ReportBody.sweepEnd reason c visited emitted).channelKind = none ∧
    (ReportBody.sweepEnd reason c visited emitted).priority = .normal ∧
    (ReportBody.sweepEnd reason c visited emitted).summary = none) ∧
  [ChannelKind.fill, .malformed, .soon, .emptied, .stranger, .due, .alarm].map ChannelKind.bit = [0, 1, 2, 3, 4, 5, 6])

/-- An offer of a channel kind is compared with the channels in ascending index (R125); where it matches, its copy is
queued or shed by the condition of its priority (R119, R128). Queued, the copy is the channel's newest and clears its
record's owed bit (R121, R132); shed, it is counted and sets it (R130). Several offers are settled one after another, all
copies of one before the next (R119). -/
def Obligations.OfferSettledOnChannel : Prop :=
  ((∀ (s : State) (o : Offer), settle s o = [0, 1, 2, 3, 4, 5, 6, 7].foldl (settleOn o) s) ∧
    (∀ s : State, settleAll [] s = s) ∧
    ∀ (s : State) (o : Offer) (os : List Offer), settleAll (o :: os) s = settleAll os (settle s o)) ∧
  ∀ (s queued shed : State) (o : Offer) (c : Fin 8) (kind : ChannelKind), o.report.body.channelKind = some kind →
    ((s.channel c).enabled = false ∨ (s.channel c).kindMask.getLsbD kind.bit = false ∨
        (∃ b, o.report.body.summary = some b ∧
          ((s.channel c).profileMask.getLsbD b.profile = false ∨ (s.channel c).districtMask.getLsbD b.district = false)) →
      settleOn o s c = s) ∧
    ((s.channel c).enabled = true → (s.channel c).kindMask.getLsbD kind.bit = true →
      (∀ b, o.report.body.summary = some b →
        (s.channel c).profileMask.getLsbD b.profile = true ∧ (s.channel c).districtMask.getLsbD b.district = true) →
      (o.concerns = none →
        queued = s.putChannel c
          { s.channel c with queue := (s.channel c).queue ++ [{ report := o.report, ref := .absent }] }) →
      (∀ slot, o.concerns = some slot →
        queued = (s.putChannel c
          { s.channel c with queue := (s.channel c).queue ++ [{ report := o.report, ref := .attached slot }] }).mapBin
            slot fun r => { r with owed := r.owed &&& ~~~(1#8 <<< c.val) }) →
      (o.report.body.priority = .low →
        (32 ≤ 256 - s.queued ∧ (s.channel c).queue.length < 48 ∧ (s.channel c).shedThreshold < (s.channel c).credit →
          settleOn o s c = queued)) ∧
      (o.report.body.priority = .normal → 8 ≤ 256 - s.queued ∧ (s.channel c).queue.length < 64 →
        settleOn o s c = queued) ∧
      (o.report.body.priority = .high → 1 ≤ 256 - s.queued ∧ (s.channel c).queue.length < 64 →
        settleOn o s c = queued)) ∧
    ∀ counters : ChannelCounters, (s.channel c).enabled = true → (s.channel c).kindMask.getLsbD kind.bit = true →
      (∀ b, o.report.body.summary = some b →
        (s.channel c).profileMask.getLsbD b.profile = true ∧ (s.channel c).districtMask.getLsbD b.district = true) →
      (o.report.body.priority = .low ∧
          (256 - s.queued < 32 ∨ 48 ≤ (s.channel c).queue.length ∨ (s.channel c).credit ≤ (s.channel c).shedThreshold) ∧
          counters = { (s.channel c).counters with shedLow := sat32 (s.channel c).counters.shedLow 1 } ∨
        o.report.body.priority = .normal ∧ (256 - s.queued < 8 ∨ 64 ≤ (s.channel c).queue.length) ∧
          counters = { (s.channel c).counters with shedNormal := sat32 (s.channel c).counters.shedNormal 1 } ∨
        o.report.body.priority = .high ∧ (256 - s.queued < 1 ∨ 64 ≤ (s.channel c).queue.length) ∧
          counters = { (s.channel c).counters with shedHigh := sat32 (s.channel c).counters.shedHigh 1 }) →
      (o.concerns = none → shed = s.putChannel c { s.channel c with counters := counters }) →
      (∀ slot, o.concerns = some slot →
        shed = (s.putChannel c { s.channel c with counters := counters }).mapBin slot fun r =>
          { r with owed := r.owed ||| (1#8 <<< c.val) }) →
      settleOn o s c = shed

/-- Copies discarded untransmitted set their channel's owed bit in each record an attached one concerns, and change nothing
else (R131). CHANNEL-SET that disables an enabled channel flushes its queue but for a copy in transmission, and ends a
sweep on the channel without SWEEP_END; a sweep on another channel is notified (R124, R137, R149, R152). That an empty
flush notifies too, the order inside the event, and that the pending end reason an ended sweep drops keeps its value in
the item are the model's: log entries 11, 16 and 21. -/
def Obligations.ChannelDisableFlushes : Prop :=
  (∀ (c : Fin 8) (copies : List Copy) (s : State),
    discardCopies c copies s = s.setBins
      (s.bins.map fun p =>
        (p.1,
          if ∃ k ∈ copies, k.ref = .attached p.1 then { p.2 with owed := p.2.owed ||| (1#8 <<< c.val) } else p.2))) ∧
  (∀ (s t : State) (c : Fin 8) (kinds : Byte) (profiles : BitVec 16) (districts : BitVec 32) (threshold : Nat)
    (kept flushed : List Copy),
    threshold < 256 → kinds.toNat < 128 → (s.channel c).enabled = true →
    Executing s 0x0E#8 (channelSetBody c 0 kinds profiles districts threshold) →
    (s.channel c).queue = kept ++ flushed →
    ((∃ frame, s.link.transmitter = .sending (.channel c) frame) → kept.length = 1) →
    ((¬∃ frame, s.link.transmitter = .sending (.channel c) frame) → kept = []) →
    t = discardCopies c flushed (s.putChannel c
      { s.channel c with
        enabled := false
        kindMask := kinds
        profileMask := profiles
        districtMask := districts
        shedThreshold := threshold
        queue := kept
        counters :=
          { (s.channel c).counters with flushed := sat32 (s.channel c).counters.flushed flushed.length } }) →
    exec .channelSet s = .next
      ((if s.sweep.state ≠ .idle ∧ s.sweep.channel = c then
          t.setSweep { s.sweep with state := .idle, lastEnd := .channelOff }
        else notifySweep t).answerHeld
        (.channel c
          { enabled := false
            kindMask := kinds
            profileMask := profiles
            districtMask := districts
            shedThreshold := threshold }
          (s.channel c).credit flushed.length)))

/-- CHANNEL-SET: its refusals; accepted without disabling an enabled channel, it stores the configuration and nothing else
(R123). -/
def Obligations.ChannelSetStores : Prop :=
  ∀ (s : State) (channel enabled threshold : Nat) (kinds : Byte) (profiles : BitVec 16) (districts : BitVec 32),
    channel < 256 → enabled < 256 → threshold < 256 →
    Executing s 0x0E#8 (channelSetBody channel enabled kinds profiles districts threshold) →
    (8 ≤ channel ∨ 2 ≤ enabled ∨ 128 ≤ kinds.toNat →
      exec .channelSet s = .next (s.answerHeld (.refusedIndex .range (BitVec.ofNat 8 channel)))) ∧
    ∀ c : Fin 8, channel = c → enabled < 2 → kinds.toNat < 128 → ((s.channel c).enabled = true → enabled = 1) →
      exec .channelSet s = .next
        ((s.putChannel c
          { s.channel c with
            enabled := decide (enabled = 1)
            kindMask := kinds
            profileMask := profiles
            districtMask := districts
            shedThreshold := threshold }).answerHeld
          (.channel c
            { enabled := decide (enabled = 1)
              kindMask := kinds
              profileMask := profiles
              districtMask := districts
              shedThreshold := threshold }
            (s.channel c).credit 0))

/-- CREDIT (R133). -/
def Obligations.CreditAdds : Prop :=
  ∀ (s : State) (channel amount : Nat), channel < 256 → amount < 65536 →
    Executing s 0x0F#8 (creditBody channel amount) →
    (8 ≤ channel → exec .credit s = .next (s.answerHeld (.refusedIndex .range (BitVec.ofNat 8 channel)))) ∧
    ∀ (c : Fin 8) (sum : Nat), channel = c → sum = sat16 (s.channel c).credit (max amount 1) →
      exec .credit s = .next
        ((s.putChannel c { s.channel c with credit := sum }).answerHeld
          (.credit (if amount = 0 then .clamped else .ok) c sum))

/-- TRANSMISSION_BEGIN at an idle transmitter: the start notice first, then the oldest answered reply, then the channel the
arbiter chooses, which spends one credit and moves the rotation position (R134, R135, R136, R168, R174). The bytes of the
three frames are those the layouts give (R177, R179 to R183). That bytes are written when the frame begins, that bit 6 of
the detail flags follows the RSSI, and that a begin with nothing waiting changes nothing are the model's: log entries 12,
17 and 2. -/
def Obligations.TransmissionBeginChooses : Prop :=
  (FrameLayout ∧ CodeTable ∧ ReportLayout ∧ ReplyLayout) ∧
  ∀ s : State, s.link.resetLow = false → s.link.transmitter = .idle →
    (∀ n, s.link.startNotice = some n →
      exec .transmissionBegin s = .next (s.setLink
        { s.link with startNotice := none, transmitter := .sending .startNotice n.frame })) ∧
    (∀ (before after : List Command) (e : Command) (r : Reply), s.link.startNotice = none →
      s.link.commands = before ++ e :: after → e.condition = .answered r →
      (∀ x ∈ before, ∀ y, x.condition ≠ .answered y) →
      exec .transmissionBegin s = .next (s.setLink
        { s.link with
          commands := before ++ { e with condition := .sending r } :: after
          transmitter := .sending .reply (r.frame e.type e.tag) })) ∧
    (s.link.startNotice = none → (∀ e ∈ s.link.commands, ∀ r, e.condition ≠ .answered r) →
      (∀ (c : Fin 8) (copy : Copy) (queue : List Copy), (s.channel c).enabled = true → 1 ≤ (s.channel c).credit →
        (s.channel c).queue = copy :: queue →
        (∀ d : Fin 8,
          (s.reports.arbitration = .ranked → d < c) →
          (s.reports.arbitration = .rotate → s.reports.rotation = none → d < c) →
          (∀ p, s.reports.arbitration = .rotate → s.reports.rotation = some p →
            (d.val + 7 - p.val) % 8 < (c.val + 7 - p.val) % 8) →
          (s.channel d).enabled = false ∨ (s.channel d).credit = 0 ∨ (s.channel d).queue = []) →
        exec .transmissionBegin s = .next
          (((s.setReports
            { s.reports with
              channels := s.reports.channels.set c { s.channel c with credit := (s.channel c).credit - 1 }
              rotation := some c }).setLink
            { s.link with transmitter := .sending (.channel c) (copy.report.frame c) }))) ∧
      ((∀ d : Fin 8, (s.channel d).enabled = false ∨ (s.channel d).credit = 0 ∨ (s.channel d).queue = []) →
        exec .transmissionBegin s = .next s))

/-- TRANSMISSION_COMPLETION leaves the transmitter idle: a channel's copy leaves its queue, is counted and notifies the
sweep; a reply's entry leaves the head of the Command Queue; the reply of a RESTART takes the engine reset of cause
COMMAND (R137, R149, R168, R172, R174; how that reply is recognised is the model's, log entry 19). -/
def Obligations.TransmissionCompletes : Prop :=
  ∀ (s : State) (frame : List Byte),
    (∀ (c : Fin 8), s.link.transmitter = .sending (.channel c) frame →
      exec .transmissionCompletion s = .next
        (notifySweep
          ((s.putChannel c
            { s.channel c with
              queue := (s.channel c).queue.tail
              counters :=
                { (s.channel c).counters with transmitted := sat32 (s.channel c).counters.transmitted 1 } }).setLink
            { s.link with transmitter := .idle }))) ∧
    (s.link.transmitter = .sending .startNotice frame →
      exec .transmissionCompletion s = .next (s.setLink { s.link with transmitter := .idle })) ∧
    (∀ (e : Command) (rest : List Command) (r : Reply), s.link.transmitter = .sending .reply frame →
      s.link.commands = e :: rest → e.condition = .sending r →
      (r ≠ .restart →
        exec .transmissionCompletion s = .next (s.setLink { s.link with commands := rest, transmitter := .idle })) ∧
      (r = .restart → exec .transmissionCompletion s = .next (engineReset .command s)))

/-! ## Sweeps -/

/-- SWEEP: its refusals in order; accepted, it stores its fields and runs from slot 0 (R145). -/
def Obligations.SweepStarts : Prop :=
  ∀ (s : State) (channel selection : Nat) (minimum : Byte) (profiles : BitVec 16) (districts : BitVec 32),
    channel < 256 → selection < 256 →
    Executing s 0x10#8 (sweepBody channel selection minimum profiles districts) →
    (s.sweep.state ≠ .idle →
      exec .sweep s = .next (s.answerHeld (.sweep .busy s.sweep.state s.sweep.cursor))) ∧
    (s.sweep.state = .idle →
      (8 ≤ channel ∨ 3 ≤ selection ∨ selection = 2 ∧ (minimum.toNat = 0 ∨ 4 ≤ minimum.toNat) →
        exec .sweep s = .next (s.answerHeld (.sweep .range .idle s.sweep.cursor))) ∧
      ∀ (c : Fin 8) (kind : Selection), channel = c →
        (selection = 0 ∧ kind = .all ∨ selection = 1 ∧ kind = .owed ∨
          selection = 2 ∧ kind = .band ∧ 1 ≤ minimum.toNat ∧ minimum.toNat ≤ 3) →
        ((s.channel c).enabled = false →
          exec .sweep s = .next (s.answerHeld (.sweep .channelOff .idle s.sweep.cursor))) ∧
        ((s.channel c).enabled = true →
          exec .sweep s = .next
            ((s.setSweep
              { state := .running
                channel := c
                selection := kind
                minimumBand := minimum
                profileMask := profiles
                districtMask := districts
                cursor := 0
                visited := 0
                emitted := 0
                pendingEnd := s.sweep.pendingEnd
                lastEnd := s.sweep.lastEnd }).answerHeld (.sweep .ok .running 0))))

/-- The SWEEP_END placement: with room on the sweep's channel its copy is the newest there and the sweep is IDLE with the
pending reason; without, nothing changes (R129, R150). A notification wakes a waiting sweep and judges a closing one
(R149, R150). SWEEP-ABORT acts by the state it is taken in; a RUNNING or WAITING sweep closes with reason ABORTED and its
SWEEP_END is judged in the command's event (R151). The row SWEEP_END_PLACEMENT on its own is the model's, log entry 15. -/
def Obligations.SweepCloses : Prop :=
  (∀ (s placed : State) (c : Fin 8), c = s.sweep.channel →
    placed = (s.putChannel c
      { s.channel c with
        queue := (s.channel c).queue ++
          [{ report :=
               { unset := !s.clock.isSet
                 time := stamp s.clock s.clock.uptime
                 body := .sweepEnd s.sweep.pendingEnd c s.sweep.visited s.sweep.emitted }
             ref := .absent }] }).setSweep
      { s.sweep with
        state := .idle
        lastEnd :=
          match s.sweep.pendingEnd with
          | .complete => .complete
          | .aborted => .aborted } →
    (s.sweep.state = .closing → 8 ≤ 256 - s.queued → (s.channel c).queue.length < 64 →
      exec .sweepEndPlacement s = .next placed ∧ notifySweep s = placed) ∧
    (s.sweep.state = .closing → 256 - s.queued < 8 ∨ 64 ≤ (s.channel c).queue.length →
      exec .sweepEndPlacement s = .next s ∧ notifySweep s = s) ∧
    (s.sweep.state = .waiting → notifySweep s = s.setSweep { s.sweep with state := .running }) ∧
    (s.sweep.state = .idle ∨ s.sweep.state = .running → notifySweep s = s)) ∧
  (∀ s : State, Executing s 0x11#8 [] →
    (s.sweep.state = .idle →
      exec .sweepAbort s = .next (s.answerHeld (.sweep .notRunning .idle s.sweep.cursor))) ∧
    (s.sweep.state = .closing →
      exec .sweepAbort s = .next (s.answerHeld (.sweep .ok .closing s.sweep.cursor))) ∧
    (s.sweep.state = .running ∨ s.sweep.state = .waiting →
      ∃ t, exec .sweepEndPlacement (s.setSweep { s.sweep with state := .closing, pendingEnd := .aborted }) = .next t ∧
        exec .sweepAbort s = .next (t.answerHeld (.sweep .ok t.sweep.state s.sweep.cursor))))

/-- A visit: the cursor passes a slot without a match; a matching record's SNAPSHOT is queued and clears its owed bit, or
the sweep waits; past slot 4095 the sweep closes as COMPLETE and its SWEEP_END is judged at once (R146, R147, R148). -/
def Obligations.SweepVisitsSlot : Prop :=
  ∀ (s t : State) (c : Fin 8) (found : BinRecord → Prop) (emitted : Nat), s.sweep.state = .running → c = s.sweep.channel →
    (∀ r, found r ↔ s.bin s.sweep.cursor = some r ∧ s.sweep.profileMask.getLsbD r.profile = true ∧
      s.sweep.districtMask.getLsbD r.district = true ∧
      (s.sweep.selection = .owed → r.owed.getLsbD c = true) ∧
      (s.sweep.selection = .band →
        r.band = .due ∧ s.sweep.minimumBand.toNat ≤ 3 ∨ r.band = .soon ∧ s.sweep.minimumBand.toNat ≤ 2 ∨
          r.band = .later ∧ s.sweep.minimumBand.toNat ≤ 1)) →
    (∀ r, found r → 256 - s.queued < 8 ∨ 64 ≤ (s.channel c).queue.length →
      exec .sweepVisit s = .next (s.setSweep { s.sweep with state := .waiting })) ∧
    (((∀ r, ¬found r) ∧ emitted = s.sweep.emitted ∧ t = s ∨
        ∃ r, found r ∧ 8 ≤ 256 - s.queued ∧ (s.channel c).queue.length < 64 ∧ emitted = s.sweep.emitted + 1 ∧
          t = (s.putChannel c
            { s.channel c with
              queue := (s.channel c).queue ++
                [{ report :=
                     { unset := !s.clock.isSet
                       time := stamp s.clock s.clock.uptime
                       body := .snapshot (summaryOf s.clock s.sweep.cursor r) (detailOf s.clock r) }
                   ref := .attached s.sweep.cursor }] }).mapBin s.sweep.cursor fun r =>
            { r with owed := r.owed &&& ~~~(1#8 <<< c.val) }) →
      (s.sweep.cursor ≠ 4095 →
        exec .sweepVisit s = .next (t.setSweep
          { s.sweep with
            cursor := s.sweep.cursor + 1, visited := s.sweep.visited + 1, emitted := emitted })) ∧
      (s.sweep.cursor = 4095 →
        exec .sweepVisit s = exec .sweepEndPlacement (t.setSweep
          { s.sweep with
            state := .closing, pendingEnd := .complete
            cursor := 4096, visited := s.sweep.visited + 1, emitted := emitted })))

/-! ## The Street Clock and the Planner Link -/

/-- SET-TIME (R158, R159). -/
def Obligations.SetTimeStores : Prop :=
  (∀ (s : State) (street : Nat) (offset : BitVec 32), street < 4294967296 →
    Executing s 0x12#8 (setTimeBody street) →
    offset = BitVec.ofNat 32 street - BitVec.ofNat 32 s.clock.uptime →
    s.clock.uptime < 4294967296 →
    exec .setTime s = .next
      ((s.setClock { s.clock with isSet := true, offset := offset }).answerHeld
        (.time offset s.clock.uptime street))) ∧
  ∀ (s : State) (body : List Byte), body.length ≠ 4 → Executing s 0x12#8 body →
    exec .setTime s = .next (s.answerHeld .badLength)

/-- CONFIG: RANGE for an arbitration mode that is neither; otherwise the five items are stored, quantities brought to
their ranges (R170). -/
def Obligations.ConfigStores : Prop :=
  ∀ (s : State) (hold limit horizon age mode : Nat) (items : ConfigItems),
    hold < 256 → limit < 256 → horizon < 4294967296 → age < 4294967296 → mode < 256 →
    Executing s 0x14#8 (configBody hold limit horizon age mode) →
    (2 ≤ mode → exec .config s = .next (s.answerHeld (.refused .range))) ∧
    (mode < 2 →
      items =
        { holdThreshold := max 1 (min 64 hold)
          captureLimit := max 10 (min 64 limit)
          soonHorizon := max 3600 (min 259200 horizon)
          strangerAge := max 600 (min 604800 age)
          arbitration := if mode = 0 then .rotate else .ranked } →
      exec .config s = .next
        (((((s.setIntake
          { s.intake with holdThreshold := items.holdThreshold, captureLimit := items.captureLimit }).setSoonHorizon
            items.soonHorizon).setStrangers { s.strangers with age := items.strangerAge }).setReports
            { s.reports with arbitration := items.arbitration }).answerHeld
          (.config
            (if items.holdThreshold = hold ∧ items.captureLimit = limit ∧ items.soonHorizon = horizon ∧
                items.strangerAge = age then .ok else .clamped) items)))

/-- COUNTERS: RANGE for a flag that is neither; otherwise the 65 counters are returned as they stand, and with YES cleared
in the same event; nothing else changes (R171, R183). -/
def Obligations.CountersReadAndCleared : Prop :=
  ∀ (s : State) (flag : Nat) (reply : Reply), flag < 256 → Executing s 0x15#8 (countersBody flag) →
    (2 ≤ flag → exec .counters s = .next (s.answerHeld (.refused .range))) ∧
    (reply = .counters
        (([s.intake.counters.capturesField, s.intake.counters.capturesRelayed, s.intake.counters.accepted,
            s.intake.counters.joins, s.intake.counters.duplicates, s.intake.counters.stale, s.intake.counters.gaps,
            s.intake.counters.held, s.intake.counters.overrun, s.intake.counters.refused, s.intake.counters.long,
            s.intake.counters.short, s.intake.counters.check, s.intake.counters.kind, s.intake.counters.purged,
            s.intake.counters.answersLost, s.intake.counters.strangersHeard, s.intake.counters.strangerOverflow,
            s.intake.counters.blind] ++
          ([0, 1, 2, 3, 4, 5, 6, 7].flatMap fun c : Fin 8 =>
            [(s.channel c).counters.transmitted, (s.channel c).counters.shedLow, (s.channel c).counters.shedNormal,
              (s.channel c).counters.shedHigh, (s.channel c).counters.flushed])) ++
          [s.link.counters.plannerBad, s.link.counters.plannerOverlong, s.link.counters.commandsOverflow,
            s.link.counters.fieldBad, s.link.counters.fieldOverlong, s.link.counters.unknownType]) →
      (flag = 0 → exec .counters s = .next (s.answerHeld reply)) ∧
      (flag = 1 → exec .counters s = .next
        ((((s.setReports
          { s.reports with channels := s.reports.channels.map fun ch => { ch with counters := {} } }).setIntake
          { s.intake with counters := {} }).setLink { s.link with counters := {} }).answerHeld reply)))

/-- Execution of the oldest held entry: it becomes answered where it stands (R165, R166); an unknown type is answered
UNKNOWN_COMMAND (R167), a body length the type does not allow BAD_LENGTH (R183), RESTART with a pending restart (R172).
While a restart is pending no command is carried out (R166, R172); that the row then answers the unchanged state is the
model's choice, log entry 2. -/
def Obligations.OldestHeldAnswered : Prop :=
  (∀ (s : State) (before after : List Command) (e : Command) (r : Reply),
    s.link.commands = before ++ e :: after → e.condition = .held → (∀ x ∈ before, x.condition ≠ .held) →
    s.answerHeld r = s.setLink
      { s.link with commands := before ++ { e with condition := .answered r } :: after }) ∧
  (∀ (s : State) (type : Byte) (body : List Byte), Executing s type body → type.toNat = 0 ∨ 0x16 < type.toNat →
    exec .unknownCommand s = .next (s.answerHeld (.unknownCommand type))) ∧
  (∀ s : State, Executing s 0x16#8 [] →
    exec .restart s = .next ((s.setLink { s.link with restartPending := true }).answerHeld .restart)) ∧
  (∀ s : State, s.link.restartPending = true → ∀ i ∈
    [Instr.enrol, .amend, .retire, .bar, .unbar, .query, .inject, .profileSet, .profileGet, .list, .clearAlarms,
      .strangers, .dismiss, .channelSet, .credit, .sweep, .sweepAbort, .setTime, .status, .config, .counters, .restart,
      .unknownCommand],
    exec i s = .next s) ∧
  ∀ (s : State) (body : List Byte), ∀ x ∈
    [(0x01#8, Instr.enrol, [7]), (0x02#8, .amend, [8]), (0x03#8, .retire, [4]), (0x04#8, .bar, [4]),
      (0x05#8, .unbar, [4]), (0x06#8, .query, [4]), (0x07#8, .inject, (List.range 595).map (· + 4)),
      (0x08#8, .profileSet, [16]), (0x09#8, .profileGet, [1]), (0x0A#8, .list, [8]), (0x0B#8, .clearAlarms, [5]),
      (0x0C#8, .strangers, [0]), (0x0D#8, .dismiss, [4]), (0x0E#8, .channelSet, [10]), (0x0F#8, .credit, [3]),
      (0x10#8, .sweep, [9]), (0x11#8, .sweepAbort, [0]), (0x12#8, .setTime, [4]), (0x13#8, .status, [0]),
      (0x14#8, .config, [11]), (0x15#8, .counters, [1]), (0x16#8, .restart, [0])],
    Executing s x.1 body → body.length ∉ x.2.2 → exec x.2.1 s = .next (s.answerHeld .badLength)

/-! ## Resets -/

/-- RESET_N's assertion is an engine reset of cause LINE and holds the line low until its release (R173); the engine reset
keeps records, profiles and clock, sets the owed bit of every attached copy it discards, returns everything else to its
reset value and leaves the start notice waiting (R26, R47, R48, R50, R85, R106, R118, R131, R141, R155, R161, R165, R174,
R175). That an assertion while the line is already low is a further reset, that a reset keeps the queue of rows not yet
taken, and that the seconds not yet taken are kept are the model's: log entries 7 (DESIGN CHOICE, unsafe), 18 and 5. -/
def Obligations.EngineResetKeepsRetained : Prop :=
  ∀ (s : State) (cause : ResetCause) (bins : SlotTable BinRecord),
    bins = s.bins.map (fun p =>
      (p.1,
        { p.2 with
          owed := [0, 1, 2, 3, 4, 5, 6, 7].foldl
            (fun mask (c : Fin 8) =>
              if ∃ k ∈ (s.channel c).queue, k.ref = .attached p.1 then mask ||| (1#8 <<< c.val) else mask)
            p.2.owed })) →
    engineReset cause s =
      { State.reset with
        pending := s.pending
        bins := bins
        profiles := s.profiles
        clock := s.clock
        sweep := { State.reset.sweep with lastEnd := if s.sweep.state = .idle then .none else .reset }
        link :=
          { State.reset.link with
            startNotice := some { cause := cause, occupied := s.bins.length, isSet := s.clock.isSet }
            lastReset := cause
            resetLow := s.link.resetLow } } ∧
    (cause = .line →
      exec .resetNAssertion s =
        .next ((engineReset .line s).setLink { (engineReset .line s).link with resetLow := true })) ∧
    exec .resetNRelease s = .next (s.setLink { s.link with resetLow := false })

/-- Power-on reset starts all state afresh (R25, R47, R50, R85, R106, R118, R140, R155, R161, R165, R174, R175); that the
queue of commands and the level of RESET_N stay is the model's choice (log entries 7 and 18). -/
def Obligations.PowerOnStartsAfresh : Prop :=
  (∀ s : State, exec .powerOnReset s = .next
    { State.reset with pending := s.pending, link := { State.reset.link with resetLow := s.link.resetLow } }) ∧
  State.reset.bins = [] ∧
  (∀ i, State.reset.profile i =
    { emptyDepth := 1500, fullDepth := 200, threshold := 800, fillWeight := 8, rateWeight := 4, median := false
      emptiedDrop := 300, reportStep := 50, silenceLimit := 1440 }) ∧
  State.reset.clock.uptime = 0 ∧ State.reset.clock.divider = 0 ∧ State.reset.clock.isSet = false ∧
  State.reset.clock.offset = 0#32 ∧
  State.reset.intake =
    { queue := [], answers := [], transmitter := .idle, counters := {}, captureLimit := 32, holdThreshold := 48 } ∧
  State.reset.soonHorizon = 43200 ∧ State.reset.strangers = { entries := [], age := 86400 } ∧
  (∀ c, State.reset.channel c =
    { enabled := false, kindMask := 0#8, profileMask := 0#16, districtMask := 0#32, shedThreshold := 0, credit := 0
      queue := [], counters := {} }) ∧
  State.reset.reports.arbitration = .rotate ∧ State.reset.reports.rotation = none ∧
  State.reset.sweep =
    { state := .idle, channel := 0, selection := .all, minimumBand := 3#8, profileMask := 0#16, districtMask := 0#32
      cursor := 0, visited := 0, emitted := 0, pendingEnd := .complete, lastEnd := .none } ∧
  State.reset.link.commands = [] ∧ State.reset.link.restartPending = false ∧ State.reset.link.counters = {} ∧
  State.reset.link.plannerHeld = [] ∧ State.reset.link.fieldHeld = [] ∧ State.reset.link.transmitter = .idle ∧
  State.reset.link.startNotice = some { cause := .powerOn, occupied := 0, isSet := false } ∧
  State.reset.link.lastReset = .powerOn

/-! ## Laws every step keeps -/

/-- The queues and the pool stay within their places, a disabled channel holds no copy but one in transmission, and a
sweep runs on an enabled channel (R41, R43, R107, R126, R127, R164). -/
def Obligations.QueueLawKept : Prop :=
  ∀ s t : State, QueueLaw s → step s = .next t → QueueLaw t

/-- The Bin Table stays canonical, an identity is held by at most one occupied slot and is then no stranger, and every
Intake Queue entry names an occupied slot whose record is not BARRED (R2, R41, R107). -/
def Obligations.IdentityLawKept : Prop :=
  ∀ s t : State, IdentityLaw s → step s = .next t → IdentityLaw t

/-- Every record stays within its ranges, its standing, band and due time stay consistent, and every present condition has
its latch set; every profile stays within its ranges (R4, R7, R49, R76, R98). -/
def Obligations.EstimateLawKept : Prop :=
  ∀ s t : State, EstimateLaw s → step s = .next t → EstimateLaw t

/-- Uptime never decreases except at power-on reset, and no owner runs ahead of it (R156, R157; the owners' counts and the
idle step are the model's, log entries 5 and 3). -/
def Obligations.UptimeNeverDecreases : Prop :=
  ∀ s t : State, ClockLaw s → step s = .next t →
    ClockLaw t ∧ (s.pending.head? ≠ some .powerOnReset → s.clock.uptime ≤ t.clock.uptime)

/-- A channel's credit falls only at a transmission begin, by exactly one, and at a reset: RESET_N's assertion, power-on, or
the engine reset that the completion of the RESTART's reply takes (R133, R136, R141, R172). -/
def Obligations.CreditSpentAtBeginOnly : Prop :=
  ∀ (s t : State) (i : Instr) (c : Fin 8), exec i s = .next t → (t.channel c).credit < (s.channel c).credit →
    (s.channel c).credit ≤ 65535 →
    i = .transmissionBegin ∧ (s.channel c).credit = (t.channel c).credit + 1 ∧
        (∃ frame, t.link.transmitter = .sending (.channel c) frame) ∨
      (i = .resetNAssertion ∨ i = .powerOnReset ∨
          i = .transmissionCompletion ∧ t = engineReset .command s ∧
            (∃ frame, s.link.transmitter = .sending .reply frame) ∧
            ∃ e rest, s.link.commands = e :: rest ∧ e.condition = .sending .restart) ∧
        (t.channel c).credit = 0

/-- The state right after reset keeps every law. -/
def Obligations.ResetMeetsLaws : Prop :=
  QueueLaw State.reset ∧ IdentityLaw State.reset ∧ EstimateLaw State.reset ∧ ClockLaw State.reset
end

