-- ==== Sys2Proof/Laws/State.lean ====
section
/-! SUPPORT. The small lemmas of State: what each block update writes and what it leaves alone. -/

namespace Sys2Proof.Machine

variable (s : State)

/-! ## Block updates -/

@[simp] theorem State.setPending_pending (x : List Instr) : (s.setPending x).pending = x := rfl
@[simp] theorem State.setPending_bins (x : List Instr) : (s.setPending x).bins = s.bins := rfl
@[simp] theorem State.setPending_profiles (x : List Instr) : (s.setPending x).profiles = s.profiles := rfl
@[simp] theorem State.setPending_clock (x : List Instr) : (s.setPending x).clock = s.clock := rfl
@[simp] theorem State.setPending_intake (x : List Instr) : (s.setPending x).intake = s.intake := rfl
@[simp] theorem State.setPending_soonHorizon (x : List Instr) : (s.setPending x).soonHorizon = s.soonHorizon := rfl
@[simp] theorem State.setPending_strangers (x : List Instr) : (s.setPending x).strangers = s.strangers := rfl
@[simp] theorem State.setPending_reports (x : List Instr) : (s.setPending x).reports = s.reports := rfl
@[simp] theorem State.setPending_sweep (x : List Instr) : (s.setPending x).sweep = s.sweep := rfl
@[simp] theorem State.setPending_link (x : List Instr) : (s.setPending x).link = s.link := rfl

@[simp] theorem State.setBins_pending (x : SlotTable BinRecord) : (s.setBins x).pending = s.pending := rfl
@[simp] theorem State.setBins_bins (x : SlotTable BinRecord) : (s.setBins x).bins = x := rfl
@[simp] theorem State.setBins_profiles (x : SlotTable BinRecord) : (s.setBins x).profiles = s.profiles := rfl
@[simp] theorem State.setBins_clock (x : SlotTable BinRecord) : (s.setBins x).clock = s.clock := rfl
@[simp] theorem State.setBins_intake (x : SlotTable BinRecord) : (s.setBins x).intake = s.intake := rfl
@[simp] theorem State.setBins_soonHorizon (x : SlotTable BinRecord) : (s.setBins x).soonHorizon = s.soonHorizon := rfl
@[simp] theorem State.setBins_strangers (x : SlotTable BinRecord) : (s.setBins x).strangers = s.strangers := rfl
@[simp] theorem State.setBins_reports (x : SlotTable BinRecord) : (s.setBins x).reports = s.reports := rfl
@[simp] theorem State.setBins_sweep (x : SlotTable BinRecord) : (s.setBins x).sweep = s.sweep := rfl
@[simp] theorem State.setBins_link (x : SlotTable BinRecord) : (s.setBins x).link = s.link := rfl

@[simp] theorem State.setProfiles_pending (x : Vector Profile 16) : (s.setProfiles x).pending = s.pending := rfl
@[simp] theorem State.setProfiles_bins (x : Vector Profile 16) : (s.setProfiles x).bins = s.bins := rfl
@[simp] theorem State.setProfiles_profiles (x : Vector Profile 16) : (s.setProfiles x).profiles = x := rfl
@[simp] theorem State.setProfiles_clock (x : Vector Profile 16) : (s.setProfiles x).clock = s.clock := rfl
@[simp] theorem State.setProfiles_intake (x : Vector Profile 16) : (s.setProfiles x).intake = s.intake := rfl
@[simp] theorem State.setProfiles_soonHorizon (x : Vector Profile 16) : (s.setProfiles x).soonHorizon = s.soonHorizon := rfl
@[simp] theorem State.setProfiles_strangers (x : Vector Profile 16) : (s.setProfiles x).strangers = s.strangers := rfl
@[simp] theorem State.setProfiles_reports (x : Vector Profile 16) : (s.setProfiles x).reports = s.reports := rfl
@[simp] theorem State.setProfiles_sweep (x : Vector Profile 16) : (s.setProfiles x).sweep = s.sweep := rfl
@[simp] theorem State.setProfiles_link (x : Vector Profile 16) : (s.setProfiles x).link = s.link := rfl

@[simp] theorem State.setClock_pending (x : Clock) : (s.setClock x).pending = s.pending := rfl
@[simp] theorem State.setClock_bins (x : Clock) : (s.setClock x).bins = s.bins := rfl
@[simp] theorem State.setClock_profiles (x : Clock) : (s.setClock x).profiles = s.profiles := rfl
@[simp] theorem State.setClock_clock (x : Clock) : (s.setClock x).clock = x := rfl
@[simp] theorem State.setClock_intake (x : Clock) : (s.setClock x).intake = s.intake := rfl
@[simp] theorem State.setClock_soonHorizon (x : Clock) : (s.setClock x).soonHorizon = s.soonHorizon := rfl
@[simp] theorem State.setClock_strangers (x : Clock) : (s.setClock x).strangers = s.strangers := rfl
@[simp] theorem State.setClock_reports (x : Clock) : (s.setClock x).reports = s.reports := rfl
@[simp] theorem State.setClock_sweep (x : Clock) : (s.setClock x).sweep = s.sweep := rfl
@[simp] theorem State.setClock_link (x : Clock) : (s.setClock x).link = s.link := rfl

@[simp] theorem State.setIntake_pending (x : Intake) : (s.setIntake x).pending = s.pending := rfl
@[simp] theorem State.setIntake_bins (x : Intake) : (s.setIntake x).bins = s.bins := rfl
@[simp] theorem State.setIntake_profiles (x : Intake) : (s.setIntake x).profiles = s.profiles := rfl
@[simp] theorem State.setIntake_clock (x : Intake) : (s.setIntake x).clock = s.clock := rfl
@[simp] theorem State.setIntake_intake (x : Intake) : (s.setIntake x).intake = x := rfl
@[simp] theorem State.setIntake_soonHorizon (x : Intake) : (s.setIntake x).soonHorizon = s.soonHorizon := rfl
@[simp] theorem State.setIntake_strangers (x : Intake) : (s.setIntake x).strangers = s.strangers := rfl
@[simp] theorem State.setIntake_reports (x : Intake) : (s.setIntake x).reports = s.reports := rfl
@[simp] theorem State.setIntake_sweep (x : Intake) : (s.setIntake x).sweep = s.sweep := rfl
@[simp] theorem State.setIntake_link (x : Intake) : (s.setIntake x).link = s.link := rfl

@[simp] theorem State.setSoonHorizon_pending (x : Nat) : (s.setSoonHorizon x).pending = s.pending := rfl
@[simp] theorem State.setSoonHorizon_bins (x : Nat) : (s.setSoonHorizon x).bins = s.bins := rfl
@[simp] theorem State.setSoonHorizon_profiles (x : Nat) : (s.setSoonHorizon x).profiles = s.profiles := rfl
@[simp] theorem State.setSoonHorizon_clock (x : Nat) : (s.setSoonHorizon x).clock = s.clock := rfl
@[simp] theorem State.setSoonHorizon_intake (x : Nat) : (s.setSoonHorizon x).intake = s.intake := rfl
@[simp] theorem State.setSoonHorizon_soonHorizon (x : Nat) : (s.setSoonHorizon x).soonHorizon = x := rfl
@[simp] theorem State.setSoonHorizon_strangers (x : Nat) : (s.setSoonHorizon x).strangers = s.strangers := rfl
@[simp] theorem State.setSoonHorizon_reports (x : Nat) : (s.setSoonHorizon x).reports = s.reports := rfl
@[simp] theorem State.setSoonHorizon_sweep (x : Nat) : (s.setSoonHorizon x).sweep = s.sweep := rfl
@[simp] theorem State.setSoonHorizon_link (x : Nat) : (s.setSoonHorizon x).link = s.link := rfl

@[simp] theorem State.setStrangers_pending (x : Strangers) : (s.setStrangers x).pending = s.pending := rfl
@[simp] theorem State.setStrangers_bins (x : Strangers) : (s.setStrangers x).bins = s.bins := rfl
@[simp] theorem State.setStrangers_profiles (x : Strangers) : (s.setStrangers x).profiles = s.profiles := rfl
@[simp] theorem State.setStrangers_clock (x : Strangers) : (s.setStrangers x).clock = s.clock := rfl
@[simp] theorem State.setStrangers_intake (x : Strangers) : (s.setStrangers x).intake = s.intake := rfl
@[simp] theorem State.setStrangers_soonHorizon (x : Strangers) : (s.setStrangers x).soonHorizon = s.soonHorizon := rfl
@[simp] theorem State.setStrangers_strangers (x : Strangers) : (s.setStrangers x).strangers = x := rfl
@[simp] theorem State.setStrangers_reports (x : Strangers) : (s.setStrangers x).reports = s.reports := rfl
@[simp] theorem State.setStrangers_sweep (x : Strangers) : (s.setStrangers x).sweep = s.sweep := rfl
@[simp] theorem State.setStrangers_link (x : Strangers) : (s.setStrangers x).link = s.link := rfl

@[simp] theorem State.setReports_pending (x : Reports) : (s.setReports x).pending = s.pending := rfl
@[simp] theorem State.setReports_bins (x : Reports) : (s.setReports x).bins = s.bins := rfl
@[simp] theorem State.setReports_profiles (x : Reports) : (s.setReports x).profiles = s.profiles := rfl
@[simp] theorem State.setReports_clock (x : Reports) : (s.setReports x).clock = s.clock := rfl
@[simp] theorem State.setReports_intake (x : Reports) : (s.setReports x).intake = s.intake := rfl
@[simp] theorem State.setReports_soonHorizon (x : Reports) : (s.setReports x).soonHorizon = s.soonHorizon := rfl
@[simp] theorem State.setReports_strangers (x : Reports) : (s.setReports x).strangers = s.strangers := rfl
@[simp] theorem State.setReports_reports (x : Reports) : (s.setReports x).reports = x := rfl
@[simp] theorem State.setReports_sweep (x : Reports) : (s.setReports x).sweep = s.sweep := rfl
@[simp] theorem State.setReports_link (x : Reports) : (s.setReports x).link = s.link := rfl

@[simp] theorem State.setSweep_pending (x : Sweep) : (s.setSweep x).pending = s.pending := rfl
@[simp] theorem State.setSweep_bins (x : Sweep) : (s.setSweep x).bins = s.bins := rfl
@[simp] theorem State.setSweep_profiles (x : Sweep) : (s.setSweep x).profiles = s.profiles := rfl
@[simp] theorem State.setSweep_clock (x : Sweep) : (s.setSweep x).clock = s.clock := rfl
@[simp] theorem State.setSweep_intake (x : Sweep) : (s.setSweep x).intake = s.intake := rfl
@[simp] theorem State.setSweep_soonHorizon (x : Sweep) : (s.setSweep x).soonHorizon = s.soonHorizon := rfl
@[simp] theorem State.setSweep_strangers (x : Sweep) : (s.setSweep x).strangers = s.strangers := rfl
@[simp] theorem State.setSweep_reports (x : Sweep) : (s.setSweep x).reports = s.reports := rfl
@[simp] theorem State.setSweep_sweep (x : Sweep) : (s.setSweep x).sweep = x := rfl
@[simp] theorem State.setSweep_link (x : Sweep) : (s.setSweep x).link = s.link := rfl

@[simp] theorem State.setLink_pending (x : LinkState) : (s.setLink x).pending = s.pending := rfl
@[simp] theorem State.setLink_bins (x : LinkState) : (s.setLink x).bins = s.bins := rfl
@[simp] theorem State.setLink_profiles (x : LinkState) : (s.setLink x).profiles = s.profiles := rfl
@[simp] theorem State.setLink_clock (x : LinkState) : (s.setLink x).clock = s.clock := rfl
@[simp] theorem State.setLink_intake (x : LinkState) : (s.setLink x).intake = s.intake := rfl
@[simp] theorem State.setLink_soonHorizon (x : LinkState) : (s.setLink x).soonHorizon = s.soonHorizon := rfl
@[simp] theorem State.setLink_strangers (x : LinkState) : (s.setLink x).strangers = s.strangers := rfl
@[simp] theorem State.setLink_reports (x : LinkState) : (s.setLink x).reports = s.reports := rfl
@[simp] theorem State.setLink_sweep (x : LinkState) : (s.setLink x).sweep = s.sweep := rfl
@[simp] theorem State.setLink_link (x : LinkState) : (s.setLink x).link = x := rfl

/-! ## Updates inside one block -/

@[simp] theorem State.putBin_pending (n : Nat) (r : BinRecord) : (s.putBin n r).pending = s.pending := rfl
@[simp] theorem State.putBin_bins (n : Nat) (r : BinRecord) : (s.putBin n r).bins =
    tablePut s.bins n r := rfl
@[simp] theorem State.putBin_profiles (n : Nat) (r : BinRecord) : (s.putBin n r).profiles = s.profiles := rfl
@[simp] theorem State.putBin_clock (n : Nat) (r : BinRecord) : (s.putBin n r).clock = s.clock := rfl
@[simp] theorem State.putBin_intake (n : Nat) (r : BinRecord) : (s.putBin n r).intake = s.intake := rfl
@[simp] theorem State.putBin_soonHorizon (n : Nat) (r : BinRecord) : (s.putBin n r).soonHorizon = s.soonHorizon := rfl
@[simp] theorem State.putBin_strangers (n : Nat) (r : BinRecord) : (s.putBin n r).strangers = s.strangers := rfl
@[simp] theorem State.putBin_reports (n : Nat) (r : BinRecord) : (s.putBin n r).reports = s.reports := rfl
@[simp] theorem State.putBin_sweep (n : Nat) (r : BinRecord) : (s.putBin n r).sweep = s.sweep := rfl
@[simp] theorem State.putBin_link (n : Nat) (r : BinRecord) : (s.putBin n r).link = s.link := rfl

@[simp] theorem State.putChannel_pending (c : Fin 8) (x : Channel) : (s.putChannel c x).pending = s.pending := rfl
@[simp] theorem State.putChannel_bins (c : Fin 8) (x : Channel) : (s.putChannel c x).bins = s.bins := rfl
@[simp] theorem State.putChannel_profiles (c : Fin 8) (x : Channel) : (s.putChannel c x).profiles = s.profiles := rfl
@[simp] theorem State.putChannel_clock (c : Fin 8) (x : Channel) : (s.putChannel c x).clock = s.clock := rfl
@[simp] theorem State.putChannel_intake (c : Fin 8) (x : Channel) : (s.putChannel c x).intake = s.intake := rfl
@[simp] theorem State.putChannel_soonHorizon (c : Fin 8) (x : Channel) : (s.putChannel c x).soonHorizon = s.soonHorizon := rfl
@[simp] theorem State.putChannel_strangers (c : Fin 8) (x : Channel) : (s.putChannel c x).strangers = s.strangers := rfl
@[simp] theorem State.putChannel_reports (c : Fin 8) (x : Channel) : (s.putChannel c x).reports =
    { s.reports with channels := s.reports.channels.set c x } := rfl
@[simp] theorem State.putChannel_sweep (c : Fin 8) (x : Channel) : (s.putChannel c x).sweep = s.sweep := rfl
@[simp] theorem State.putChannel_link (c : Fin 8) (x : Channel) : (s.putChannel c x).link = s.link := rfl

@[simp] theorem State.countIntake_pending (f : IntakeCounters → IntakeCounters) : (s.countIntake f).pending = s.pending := rfl
@[simp] theorem State.countIntake_bins (f : IntakeCounters → IntakeCounters) : (s.countIntake f).bins = s.bins := rfl
@[simp] theorem State.countIntake_profiles (f : IntakeCounters → IntakeCounters) : (s.countIntake f).profiles = s.profiles := rfl
@[simp] theorem State.countIntake_clock (f : IntakeCounters → IntakeCounters) : (s.countIntake f).clock = s.clock := rfl
@[simp] theorem State.countIntake_intake (f : IntakeCounters → IntakeCounters) : (s.countIntake f).intake =
    { s.intake with counters := f s.intake.counters } := rfl
@[simp] theorem State.countIntake_soonHorizon (f : IntakeCounters → IntakeCounters) : (s.countIntake f).soonHorizon = s.soonHorizon := rfl
@[simp] theorem State.countIntake_strangers (f : IntakeCounters → IntakeCounters) : (s.countIntake f).strangers = s.strangers := rfl
@[simp] theorem State.countIntake_reports (f : IntakeCounters → IntakeCounters) : (s.countIntake f).reports = s.reports := rfl
@[simp] theorem State.countIntake_sweep (f : IntakeCounters → IntakeCounters) : (s.countIntake f).sweep = s.sweep := rfl
@[simp] theorem State.countIntake_link (f : IntakeCounters → IntakeCounters) : (s.countIntake f).link = s.link := rfl

@[simp] theorem State.answerHeld_pending (r : Reply) : (s.answerHeld r).pending = s.pending := rfl
@[simp] theorem State.answerHeld_bins (r : Reply) : (s.answerHeld r).bins = s.bins := rfl
@[simp] theorem State.answerHeld_profiles (r : Reply) : (s.answerHeld r).profiles = s.profiles := rfl
@[simp] theorem State.answerHeld_clock (r : Reply) : (s.answerHeld r).clock = s.clock := rfl
@[simp] theorem State.answerHeld_intake (r : Reply) : (s.answerHeld r).intake = s.intake := rfl
@[simp] theorem State.answerHeld_soonHorizon (r : Reply) : (s.answerHeld r).soonHorizon = s.soonHorizon := rfl
@[simp] theorem State.answerHeld_strangers (r : Reply) : (s.answerHeld r).strangers = s.strangers := rfl
@[simp] theorem State.answerHeld_reports (r : Reply) : (s.answerHeld r).reports = s.reports := rfl
@[simp] theorem State.answerHeld_sweep (r : Reply) : (s.answerHeld r).sweep = s.sweep := rfl
@[simp] theorem State.answerHeld_link (r : Reply) : (s.answerHeld r).link =
    { s.link with commands := answerFirst r s.link.commands } := rfl

@[simp] theorem State.setFieldHeld_pending (b : List Byte) : (s.setFieldHeld b).pending = s.pending := rfl
@[simp] theorem State.setFieldHeld_bins (b : List Byte) : (s.setFieldHeld b).bins = s.bins := rfl
@[simp] theorem State.setFieldHeld_profiles (b : List Byte) : (s.setFieldHeld b).profiles = s.profiles := rfl
@[simp] theorem State.setFieldHeld_clock (b : List Byte) : (s.setFieldHeld b).clock = s.clock := rfl
@[simp] theorem State.setFieldHeld_intake (b : List Byte) : (s.setFieldHeld b).intake = s.intake := rfl
@[simp] theorem State.setFieldHeld_soonHorizon (b : List Byte) : (s.setFieldHeld b).soonHorizon = s.soonHorizon := rfl
@[simp] theorem State.setFieldHeld_strangers (b : List Byte) : (s.setFieldHeld b).strangers = s.strangers := rfl
@[simp] theorem State.setFieldHeld_reports (b : List Byte) : (s.setFieldHeld b).reports = s.reports := rfl
@[simp] theorem State.setFieldHeld_sweep (b : List Byte) : (s.setFieldHeld b).sweep = s.sweep := rfl
@[simp] theorem State.setFieldHeld_link (b : List Byte) : (s.setFieldHeld b).link =
    { s.link with fieldHeld := b } := rfl

@[simp] theorem State.setPlannerHeld_pending (b : List Byte) : (s.setPlannerHeld b).pending = s.pending := rfl
@[simp] theorem State.setPlannerHeld_bins (b : List Byte) : (s.setPlannerHeld b).bins = s.bins := rfl
@[simp] theorem State.setPlannerHeld_profiles (b : List Byte) : (s.setPlannerHeld b).profiles = s.profiles := rfl
@[simp] theorem State.setPlannerHeld_clock (b : List Byte) : (s.setPlannerHeld b).clock = s.clock := rfl
@[simp] theorem State.setPlannerHeld_intake (b : List Byte) : (s.setPlannerHeld b).intake = s.intake := rfl
@[simp] theorem State.setPlannerHeld_soonHorizon (b : List Byte) : (s.setPlannerHeld b).soonHorizon = s.soonHorizon := rfl
@[simp] theorem State.setPlannerHeld_strangers (b : List Byte) : (s.setPlannerHeld b).strangers = s.strangers := rfl
@[simp] theorem State.setPlannerHeld_reports (b : List Byte) : (s.setPlannerHeld b).reports = s.reports := rfl
@[simp] theorem State.setPlannerHeld_sweep (b : List Byte) : (s.setPlannerHeld b).sweep = s.sweep := rfl
@[simp] theorem State.setPlannerHeld_link (b : List Byte) : (s.setPlannerHeld b).link =
    { s.link with plannerHeld := b } := rfl

@[simp] theorem State.countLink_pending (f : LinkCounters → LinkCounters) : (s.countLink f).pending = s.pending := rfl
@[simp] theorem State.countLink_bins (f : LinkCounters → LinkCounters) : (s.countLink f).bins = s.bins := rfl
@[simp] theorem State.countLink_profiles (f : LinkCounters → LinkCounters) : (s.countLink f).profiles = s.profiles := rfl
@[simp] theorem State.countLink_clock (f : LinkCounters → LinkCounters) : (s.countLink f).clock = s.clock := rfl
@[simp] theorem State.countLink_intake (f : LinkCounters → LinkCounters) : (s.countLink f).intake = s.intake := rfl
@[simp] theorem State.countLink_soonHorizon (f : LinkCounters → LinkCounters) : (s.countLink f).soonHorizon = s.soonHorizon := rfl
@[simp] theorem State.countLink_strangers (f : LinkCounters → LinkCounters) : (s.countLink f).strangers = s.strangers := rfl
@[simp] theorem State.countLink_reports (f : LinkCounters → LinkCounters) : (s.countLink f).reports = s.reports := rfl
@[simp] theorem State.countLink_sweep (f : LinkCounters → LinkCounters) : (s.countLink f).sweep = s.sweep := rfl
@[simp] theorem State.countLink_link (f : LinkCounters → LinkCounters) : (s.countLink f).link =
    { s.link with counters := f s.link.counters } := rfl

@[simp] theorem State.dropStranger_pending (i : Identity) : (s.dropStranger i).pending = s.pending := rfl
@[simp] theorem State.dropStranger_bins (i : Identity) : (s.dropStranger i).bins = s.bins := rfl
@[simp] theorem State.dropStranger_profiles (i : Identity) : (s.dropStranger i).profiles = s.profiles := rfl
@[simp] theorem State.dropStranger_clock (i : Identity) : (s.dropStranger i).clock = s.clock := rfl
@[simp] theorem State.dropStranger_intake (i : Identity) : (s.dropStranger i).intake = s.intake := rfl
@[simp] theorem State.dropStranger_soonHorizon (i : Identity) : (s.dropStranger i).soonHorizon = s.soonHorizon := rfl
@[simp] theorem State.dropStranger_strangers (i : Identity) : (s.dropStranger i).strangers =
    { s.strangers with entries := s.strangers.entries.filter fun e => e.identity != i } := rfl
@[simp] theorem State.dropStranger_reports (i : Identity) : (s.dropStranger i).reports = s.reports := rfl
@[simp] theorem State.dropStranger_sweep (i : Identity) : (s.dropStranger i).sweep = s.sweep := rfl
@[simp] theorem State.dropStranger_link (i : Identity) : (s.dropStranger i).link = s.link := rfl

@[simp] theorem State.setPending_self : s.setPending s.pending = s := rfl

/-! ## Views that an update does not touch -/

theorem State.bin_of_bins {s t : State} (h : t.bins = s.bins) (n : Nat) : t.bin n = s.bin n := by
  simp only [State.bin, h]

theorem State.find_of_bins {s t : State} (h : t.bins = s.bins) (i : Identity) : t.find i = s.find i := by
  simp only [State.find, h]

theorem State.channel_of_reports {s t : State} (h : t.reports = s.reports) (c : Fin 8) : t.channel c = s.channel c := by
  simp only [State.channel, h]

theorem State.queued_of_channels {s t : State} (h : ∀ c, (t.channel c).queue.length = (s.channel c).queue.length) :
    t.queued = s.queued := by
  simp only [State.queued, h]

/-! ## Channels -/

@[simp] theorem State.putChannel_channel_same (c : Fin 8) (x : Channel) : (s.putChannel c x).channel c = x := by
  simp [State.channel, State.putChannel]

theorem State.putChannel_channel_other {c d : Fin 8} (h : c ≠ d) (x : Channel) :
    (s.putChannel c x).channel d = s.channel d := by
  have : c.val ≠ d.val := fun e => h (Fin.ext e)
  simp [State.channel, State.putChannel, this]

theorem State.putChannel_channel (c d : Fin 8) (x : Channel) :
    (s.putChannel c x).channel d = if c = d then x else s.channel d := by
  by_cases h : c = d
  · subst h; simp
  · simp [h, State.putChannel_channel_other s h]

end Sys2Proof.Machine
end

