-- ==== Sys2Proof/Laws/Bytes.lean ====
section
/-! SUPPORT. Fields of bodies: what is read back from what the host and the part write (R179). -/

namespace Sys2Proof.Machine

theorem byteOf_toNat (n : Nat) : (byteOf n).toNat = n % 256 := by simp [byteOf]

theorem byteOf_toNat_of_lt {n : Nat} (h : n < 256) : (byteOf n).toNat = n := by
  rw [byteOf_toNat]; omega

@[simp] theorem be16_length (n : Nat) : (be16 n).length = 2 := rfl

@[simp] theorem be32_length (n : Nat) : (be32 n).length = 4 := rfl

@[simp] theorem byteAt_zero (b : Byte) (l : List Byte) : byteAt (b :: l) 0 = b.toNat := rfl

@[simp] theorem byteAt_succ (b : Byte) (l : List Byte) (i : Nat) : byteAt (b :: l) (i + 1) = byteAt l i := rfl

@[simp] theorem byteAt_nil (i : Nat) : byteAt [] i = 0 := rfl

/-- A two-byte field read back. -/
theorem nat16At_be16 {n : Nat} (h : n < 65536) (l : List Byte) : nat16At (be16 n ++ l) 0 = n := by
  have h1 : byteAt (be16 n ++ l) 0 = n / 256 % 256 := byteOf_toNat _
  have h2 : byteAt (be16 n ++ l) (0 + 1) = n % 256 := byteOf_toNat _
  rw [nat16At, h1, h2]
  omega

/-- A four-byte field read back. -/
theorem nat32At_be32 {n : Nat} (h : n < 4294967296) (l : List Byte) : nat32At (be32 n ++ l) 0 = n := by
  have h0 : byteAt (be32 n ++ l) 0 = n / 16777216 % 256 := byteOf_toNat _
  have h1 : byteAt (be32 n ++ l) (0 + 1) = n / 65536 % 256 := byteOf_toNat _
  have h2 : byteAt (be32 n ++ l) (0 + 2) = n / 256 % 256 := byteOf_toNat _
  have h3 : byteAt (be32 n ++ l) (0 + 2 + 1) = n % 256 := byteOf_toNat _
  rw [nat32At, nat16At, nat16At, h0, h1, h2, h3]
  omega

/-- A field read at an offset past a head is the field of the rest. -/
theorem nat16At_cons (b : Byte) (l : List Byte) (i : Nat) : nat16At (b :: l) (i + 1) = nat16At l i := rfl

theorem nat32At_cons (b : Byte) (l : List Byte) (i : Nat) : nat32At (b :: l) (i + 1) = nat32At l i := rfl

/-- An identity read back from the head of a body. -/
theorem identityAt_be32 (id : Identity) (l : List Byte) : identityAt (be32 id.toNat ++ l) 0 = id := by
  rw [identityAt, nat32At_be32 id.isLt]
  simp

theorem identityAt_identityBody (id : Identity) : identityAt (identityBody id) 0 = id := by
  simpa [identityBody] using identityAt_be32 id []

end Sys2Proof.Machine
end

