-- ==== Sys2Proof/Laws/Tables.lean ====
section
/-! SUPPORT. The slot table: reading after a write or a removal, the canonical form kept, and the lowest vacant slot. -/

namespace Sys2Proof.Machine

variable {α : Type}

theorem tableGet_tablePut_same (t : SlotTable α) (n : Nat) (v : α) : tableGet (tablePut t n v) n = some v := by
  induction t with
  | nil => simp [tablePut, tableGet]
  | cons p t ih =>
    obtain ⟨k, w⟩ := p
    simp only [tablePut]
    split
    · simp [tableGet]
    · split
      · simp [tableGet]
      · rename_i _ h
        simp [tableGet, h, ih]

theorem tableGet_tablePut_other (t : SlotTable α) {n m : Nat} (h : n ≠ m) (v : α) :
    tableGet (tablePut t n v) m = tableGet t m := by
  induction t with
  | nil => simp [tablePut, tableGet, h]
  | cons p t ih =>
    obtain ⟨k, w⟩ := p
    simp only [tablePut]
    split
    · simp [tableGet, h]
    · split
      · rename_i _ hk
        subst hk
        simp [tableGet, h]
      · simp only [tableGet, ih]

theorem tableGet_tablePut (t : SlotTable α) (n m : Nat) (v : α) :
    tableGet (tablePut t n v) m = if n = m then some v else tableGet t m := by
  by_cases h : n = m
  · subst h; simp [tableGet_tablePut_same]
  · simp [h, tableGet_tablePut_other]

theorem tableGet_tableRemove (t : SlotTable α) (n m : Nat) :
    tableGet (tableRemove t n) m = if n = m then none else tableGet t m := by
  induction t with
  | nil => simp [tableRemove, tableGet]
  | cons p t ih =>
    obtain ⟨k, w⟩ := p
    simp only [tableRemove, List.filter] at ih ⊢
    by_cases hk : k = n
    · subst hk
      simp only [bne_self_eq_false, ih, tableGet]
      split <;> rfl
    · have : (k != n) = true := by simp [hk]
      simp only [this, tableGet, ih]
      by_cases h1 : k = m
      · subst h1
        have hn : n ≠ k := fun e => hk e.symm
        simp [hn]
      · simp [h1]

theorem mem_of_tableGet {t : SlotTable α} {n : Nat} {v : α} (h : tableGet t n = some v) : (n, v) ∈ t := by
  induction t with
  | nil => simp [tableGet] at h
  | cons p t ih =>
    obtain ⟨k, w⟩ := p
    simp only [tableGet] at h
    split at h
    · rename_i hk
      simp_all
    · simp [ih h]

theorem mem_tablePut {t : SlotTable α} {n : Nat} {v : α} {p : Nat × α} (h : p ∈ tablePut t n v) :
    p = (n, v) ∨ p ∈ t := by
  induction t with
  | nil => simpa [tablePut] using h
  | cons q t ih =>
    obtain ⟨k, w⟩ := q
    simp only [tablePut] at h
    split at h
    · simpa using h
    · split at h
      · rcases List.mem_cons.mp h with h | h
        · exact .inl h
        · exact .inr (by simp [h])
      · rcases List.mem_cons.mp h with h | h
        · exact .inr (by simp [h])
        · rcases ih h with h | h
          · exact .inl h
          · exact .inr (by simp [h])

theorem mem_tableRemove {t : SlotTable α} {n : Nat} {p : Nat × α} : p ∈ tableRemove t n ↔ p ∈ t ∧ p.1 ≠ n := by
  simp [tableRemove]

/-- The canonical form, said without Bools. -/
theorem tableWf_iff (t : SlotTable α) :
    tableWf t = true ↔ (t.Pairwise fun p q => p.1 < q.1) ∧ ∀ p ∈ t, p.1 < 4096 := by
  unfold tableWf
  rw [Bool.and_eq_true, List.all_eq_true, decide_eq_true_iff]
  exact and_congr_right fun _ =>
    forall_congr' fun p => imp_congr_right fun _ => decide_eq_true_iff (p := p.1 < Config.slots)

theorem tableGet_of_pairwise {t : SlotTable α} (wf : t.Pairwise fun p q => p.1 < q.1) {n : Nat} {v : α}
    (h : (n, v) ∈ t) : tableGet t n = some v := by
  induction t with
  | nil => simp at h
  | cons p t ih =>
    obtain ⟨k, w⟩ := p
    rw [List.pairwise_cons] at wf
    rcases List.mem_cons.mp h with h | h
    · cases h; simp [tableGet]
    · have := wf.1 _ h
      have hk : k ≠ n := by simp only at this; omega
      simp [tableGet, hk, ih wf.2 h]

theorem tableGet_of_mem {t : SlotTable α} (wf : tableWf t = true) {n : Nat} {v : α} (h : (n, v) ∈ t) :
    tableGet t n = some v :=
  tableGet_of_pairwise ((tableWf_iff t).mp wf).1 h

theorem tablePut_pairwise {t : SlotTable α} (wf : t.Pairwise fun p q => p.1 < q.1) (n : Nat) (v : α) :
    (tablePut t n v).Pairwise fun p q => p.1 < q.1 := by
  induction t with
  | nil => simp [tablePut]
  | cons p t ih =>
    obtain ⟨k, w⟩ := p
    simp only [tablePut]
    rw [List.pairwise_cons] at wf
    split
    · rename_i h
      refine List.pairwise_cons.mpr ⟨fun q hq => ?_, List.pairwise_cons.mpr wf⟩
      rcases List.mem_cons.mp hq with rfl | hq
      · exact h
      · exact Nat.lt_trans h (wf.1 q hq)
    · split
      · rename_i h
        subst h
        exact List.pairwise_cons.mpr wf
      · refine List.pairwise_cons.mpr ⟨fun q hq => ?_, ih wf.2⟩
        rcases mem_tablePut hq with rfl | hq
        · simp only; omega
        · exact wf.1 q hq

theorem tablePut_wf {t : SlotTable α} (wf : tableWf t = true) {n : Nat} (hn : n < 4096) (v : α) :
    tableWf (tablePut t n v) = true := by
  rw [tableWf_iff] at wf ⊢
  refine ⟨tablePut_pairwise wf.1 n v, fun p hp => ?_⟩
  rcases mem_tablePut hp with rfl | hp
  · exact hn
  · exact wf.2 p hp

theorem tableRemove_wf {t : SlotTable α} (wf : tableWf t = true) (n : Nat) : tableWf (tableRemove t n) = true := by
  rw [tableWf_iff] at wf ⊢
  exact ⟨wf.1.filter _, fun p hp => wf.2 p (mem_tableRemove.mp hp).1⟩

/-- A table whose slots stay and whose records change keeps the canonical form. -/
theorem tableMap_wf {t : SlotTable α} (wf : tableWf t = true) (f : Nat × α → α) :
    tableWf (t.map fun p => (p.1, f p)) = true := by
  rw [tableWf_iff] at wf ⊢
  refine ⟨List.pairwise_map.mpr wf.1, fun p hp => ?_⟩
  obtain ⟨q, hq, rfl⟩ := List.mem_map.mp hp
  exact wf.2 q hq

theorem tableGet_map (t : SlotTable α) (f : Nat × α → α) (n : Nat) :
    tableGet (t.map fun p => (p.1, f p)) n = (tableGet t n).map fun v => f (n, v) := by
  induction t with
  | nil => rfl
  | cons p t ih =>
    obtain ⟨k, w⟩ := p
    simp only [List.map_cons, tableGet, ih]
    split
    · rename_i h; subst h; rfl
    · rfl

/-- What the search for a vacant slot answers: the least one. -/
theorem lowestVacantFrom_some {t : SlotTable α} {fuel k n : Nat} (h : lowestVacantFrom t fuel k = some n) :
    k ≤ n ∧ n < k + fuel ∧ tableGet t n = none ∧ ∀ m, k ≤ m → m < n → tableGet t m ≠ none := by
  induction fuel generalizing k with
  | zero => simp [lowestVacantFrom] at h
  | succ fuel ih =>
    simp only [lowestVacantFrom] at h
    split at h
    · rename_i hk
      simp only [Option.some.injEq] at h
      subst h
      exact ⟨le_refl _, by omega, by simpa using hk, fun m h1 h2 => absurd h2 (by omega)⟩
    · rename_i hk
      obtain ⟨h1, h2, h3, h4⟩ := ih h
      refine ⟨by omega, by omega, h3, fun m hm1 hm2 => ?_⟩
      by_cases hm : m = k
      · subst hm
        intro e
        simp [e] at hk
      · exact h4 m (by omega) hm2

theorem lowestVacantFrom_none {t : SlotTable α} {fuel k : Nat} (h : lowestVacantFrom t fuel k = none) :
    ∀ m, k ≤ m → m < k + fuel → tableGet t m ≠ none := by
  induction fuel generalizing k with
  | zero => intro m h1 h2; omega
  | succ fuel ih =>
    simp only [lowestVacantFrom] at h
    split at h
    · cases h
    · rename_i hk
      intro m h1 h2
      by_cases hm : m = k
      · subst hm
        intro e
        simp [e] at hk
      · exact ih h m (by omega) (by omega)

/-! ## Records by slot and by identity -/

theorem State.putBin_bin (s : State) (n m : Nat) (r : BinRecord) :
    (s.putBin n r).bin m = if n = m then some r else s.bin m := tableGet_tablePut s.bins n m r

theorem State.mapBin_bin (s : State) (n m : Nat) (f : BinRecord → BinRecord) :
    (s.mapBin n f).bin m = if n = m then (s.bin m).map f else s.bin m := by
  have h := tableGet_map s.bins (fun p => if p.1 = n then f p.2 else p.2) m
  simp only [State.mapBin, State.bin, State.setBins_bins, h]
  by_cases hn : n = m
  · subst hn; simp
  · have hm : m ≠ n := fun e => hn e.symm
    simp [hn, hm]

theorem State.mapBin_wf {s : State} (wf : tableWf s.bins = true) (n : Nat) (f : BinRecord → BinRecord) :
    tableWf (s.mapBin n f).bins = true := tableMap_wf wf _

theorem State.mem_of_find {s : State} {i : Identity} {n : Nat} {r : BinRecord} (h : s.find i = some (n, r)) :
    (n, r) ∈ s.bins ∧ r.identity = i := by
  refine ⟨List.mem_of_find?_eq_some h, ?_⟩
  simpa using List.find?_some h

/-- In a canonical table the identity map names the slot that holds the record (R2). -/
theorem State.bin_of_find {s : State} (wf : tableWf s.bins = true) {i : Identity} {n : Nat} {r : BinRecord}
    (h : s.find i = some (n, r)) : s.bin n = some r ∧ r.identity = i :=
  ⟨tableGet_of_mem wf (State.mem_of_find h).1, (State.mem_of_find h).2⟩

end Sys2Proof.Machine
end

