-- ==== Sys2Proof/Laws/Ops.lean ====
section
/-! SUPPORT. Once for each shared operation: what it can do. Offers and copies touch channels and owed masks only; the
execution of a held command has four cases; lists are sorted and complete. -/

namespace Sys2Proof.Machine

/-! ## Relations -/

theorem OffersOnly.refl (s : State) : OffersOnly s s := ⟨rfl, rfl, rfl, rfl, rfl, rfl, rfl, rfl, rfl, rfl, rfl⟩

theorem OffersOnly.trans {s t u : State} (h : OffersOnly s t) (k : OffersOnly t u) : OffersOnly s u :=
  ⟨k.pending.trans h.pending, k.bins.trans h.bins, k.profiles.trans h.profiles, k.clock.trans h.clock,
    k.intake.trans h.intake, k.soonHorizon.trans h.soonHorizon, k.strangers.trans h.strangers, k.sweep.trans h.sweep,
    k.link.trans h.link, k.arbitration.trans h.arbitration, k.rotation.trans h.rotation⟩

theorem ChannelGrows.refl (x : Channel) : ChannelGrows x x :=
  ⟨rfl, rfl, rfl, rfl, rfl, rfl, rfl, rfl, [], by simp⟩

theorem ChannelGrows.trans {x y z : Channel} (h : ChannelGrows x y) (k : ChannelGrows y z) : ChannelGrows x z := by
  obtain ⟨h1, h2, h3, h4, h5, h6, h7, h8, l, hl⟩ := h
  obtain ⟨k1, k2, k3, k4, k5, k6, k7, k8, m, hm⟩ := k
  exact ⟨k1.trans h1, k2.trans h2, k3.trans h3, k4.trans h4, k5.trans h5, k6.trans h6, k7.trans h7, k8.trans h8,
    l ++ m, by simp [hm, hl]⟩

/-! ## Owed bits -/

theorem noOwed_owed (r : BinRecord) (m : BitVec 8) : noOwed { r with owed := m } = noOwed r := rfl

theorem noOwedTable_map (t : SlotTable BinRecord) (f : Nat × BinRecord → BinRecord)
    (h : ∀ p, noOwed (f p) = noOwed p.2) : noOwedTable (t.map fun p => (p.1, f p)) = noOwedTable t := by
  simp [noOwedTable, h]

theorem offersOnly_mapBin (s : State) (n : Nat) (f : BinRecord → BinRecord) (h : ∀ r, noOwed (f r) = noOwed r) :
    OffersOnly s (s.mapBin n f) :=
  { OffersOnly.refl s with
    bins := noOwedTable_map s.bins _ fun p => by
      by_cases hp : p.1 = n
      · simp [hp, h]
      · simp [hp] }

theorem offersOnly_setOwed (s : State) (c : Fin 8) (n : Nat) : OffersOnly s (s.setOwed c n) :=
  offersOnly_mapBin s n _ fun _ => rfl

theorem offersOnly_clearOwed (s : State) (c : Fin 8) (n : Nat) : OffersOnly s (s.clearOwed c n) :=
  offersOnly_mapBin s n _ fun _ => rfl

@[simp] theorem State.setOwed_reports (s : State) (c : Fin 8) (n : Nat) : (s.setOwed c n).reports = s.reports := rfl

@[simp] theorem State.clearOwed_reports (s : State) (c : Fin 8) (n : Nat) : (s.clearOwed c n).reports = s.reports := rfl

@[simp] theorem State.setOwed_channel (s : State) (c d : Fin 8) (n : Nat) : (s.setOwed c n).channel d = s.channel d := rfl

@[simp] theorem State.clearOwed_channel (s : State) (c d : Fin 8) (n : Nat) :
    (s.clearOwed c n).channel d = s.channel d := rfl

theorem State.setOwed_bin (s : State) (c : Fin 8) (n m : Nat) :
    (s.setOwed c n).bin m = if n = m then (s.bin m).map fun r => { r with owed := owedSet c r.owed } else s.bin m :=
  State.mapBin_bin s n m _

theorem State.clearOwed_bin (s : State) (c : Fin 8) (n m : Nat) :
    (s.clearOwed c n).bin m = if n = m then (s.bin m).map fun r => { r with owed := owedClear c r.owed } else s.bin m :=
  State.mapBin_bin s n m _

/-! ## Copies and offers -/

theorem offersOnly_putChannel (s : State) (c : Fin 8) (x : Channel) : OffersOnly s (s.putChannel c x) :=
  { OffersOnly.refl s with }

theorem offersOnly_discardCopy (c : Fin 8) (s : State) (k : Copy) : OffersOnly s (discardCopy c s k) := by
  unfold discardCopy
  split
  · exact offersOnly_setOwed s c _
  · exact .refl s
  · exact .refl s

theorem offersOnly_discardCopies (c : Fin 8) (l : List Copy) (s : State) : OffersOnly s (discardCopies c l s) := by
  induction l generalizing s with
  | nil => exact .refl s
  | cons k l ih => exact (offersOnly_discardCopy c s k).trans (ih _)

@[simp] theorem discardCopy_reports (c : Fin 8) (s : State) (k : Copy) : (discardCopy c s k).reports = s.reports := by
  unfold discardCopy
  split <;> rfl

@[simp] theorem discardCopies_reports (c : Fin 8) (l : List Copy) (s : State) :
    (discardCopies c l s).reports = s.reports := by
  induction l generalizing s with
  | nil => rfl
  | cons k l ih => exact (ih _).trans (discardCopy_reports c s k)

/-- A flush writes its channel's queue and "flushed" counter, and owed masks (R124). -/
theorem offersOnly_flush (c : Fin 8) (s : State) : OffersOnly s (flush c s) :=
  (offersOnly_putChannel s c _).trans (offersOnly_discardCopies c _ _)

theorem flush_channel (c d : Fin 8) (s : State) :
    (flush c s).channel d =
      if c = d then
        { s.channel c with
          queue := s.keptCopies c
          counters :=
            { (s.channel c).counters with
              flushed := raise32 (s.channel c).counters.flushed (s.flushedCopies c).length } }
      else s.channel d := by
  have h := State.channel_of_reports
    (discardCopies_reports c (s.flushedCopies c)
      (s.putChannel c
        { s.channel c with
          queue := s.keptCopies c
          counters :=
            { (s.channel c).counters with
              flushed := raise32 (s.channel c).counters.flushed (s.flushedCopies c).length } })) d
  exact h.trans (State.putChannel_channel s c d _)

theorem offersOnly_queueCopy (o : Offer) (c : Fin 8) (s : State) : OffersOnly s (queueCopy o c s) := by
  unfold queueCopy
  split
  · exact (offersOnly_putChannel s c _).trans (offersOnly_clearOwed _ c _)
  · exact offersOnly_putChannel s c _

theorem queueCopy_channel (o : Offer) (c d : Fin 8) (s : State) :
    (queueCopy o c s).channel d =
      if c = d then { s.channel c with queue := (s.channel c).queue ++ [copyOf o] } else s.channel d := by
  unfold queueCopy
  split
  · rw [State.clearOwed_channel]; exact State.putChannel_channel s c d _
  · exact State.putChannel_channel s c d _

theorem offersOnly_shedCopy (o : Offer) (c : Fin 8) (s : State) : OffersOnly s (shedCopy o c s) := by
  unfold shedCopy
  split
  · exact (offersOnly_putChannel s c _).trans (offersOnly_setOwed _ c _)
  · exact offersOnly_putChannel s c _

theorem shedCopy_channel (o : Offer) (c d : Fin 8) (s : State) :
    (shedCopy o c s).channel d =
      if c = d then
        { s.channel c with counters := raiseShed o.report.body.priority (s.channel c).counters }
      else s.channel d := by
  unfold shedCopy
  split
  · rw [State.setOwed_channel]; exact State.putChannel_channel s c d _
  · exact State.putChannel_channel s c d _

theorem channelGrows_shed (p : Priority) (x : Channel) : ChannelGrows x { x with counters := raiseShed p x.counters } := by
  cases p <;> exact ⟨rfl, rfl, rfl, rfl, rfl, rfl, rfl, rfl, [], by simp⟩

/-- An offer judged on one channel: every other channel stands, and this one only grows (R125, R128). -/
theorem settleOn_spec (o : Offer) (s : State) (c : Fin 8) :
    OffersOnly s (settleOn o s c) ∧ ∀ d, ChannelGrows (s.channel d) ((settleOn o s c).channel d) := by
  unfold settleOn
  split
  · split
    · refine ⟨offersOnly_queueCopy o c s, fun d => ?_⟩
      rw [queueCopy_channel]
      split
      · rename_i h; subst h
        exact ⟨rfl, rfl, rfl, rfl, rfl, rfl, rfl, rfl, [copyOf o], rfl⟩
      · exact .refl _
    · refine ⟨offersOnly_shedCopy o c s, fun d => ?_⟩
      rw [shedCopy_channel]
      split
      · rename_i h; subst h
        exact channelGrows_shed _ _
      · exact .refl _
  · exact ⟨.refl s, fun d => .refl _⟩

theorem settleFold_spec (o : Offer) (l : List (Fin 8)) (s : State) :
    OffersOnly s (l.foldl (settleOn o) s) ∧ ∀ d, ChannelGrows (s.channel d) ((l.foldl (settleOn o) s).channel d) := by
  induction l generalizing s with
  | nil => exact ⟨.refl s, fun d => .refl _⟩
  | cons c l ih =>
    obtain ⟨h1, h2⟩ := settleOn_spec o s c
    obtain ⟨k1, k2⟩ := ih (settleOn o s c)
    exact ⟨h1.trans k1, fun d => (h2 d).trans (k2 d)⟩

/-- Settling an offer writes channels and owed masks only, and queues grow at their ends only (R119). -/
theorem settle_spec (s : State) (o : Offer) :
    OffersOnly s (settle s o) ∧ ∀ d, ChannelGrows (s.channel d) ((settle s o).channel d) := settleFold_spec o _ s

theorem settleAll_spec (l : List Offer) (s : State) :
    OffersOnly s (settleAll l s) ∧ ∀ d, ChannelGrows (s.channel d) ((settleAll l s).channel d) := by
  induction l generalizing s with
  | nil => exact ⟨.refl s, fun d => .refl _⟩
  | cons o l ih =>
    obtain ⟨h1, h2⟩ := settle_spec s o
    obtain ⟨k1, k2⟩ := ih (settle s o)
    exact ⟨h1.trans k1, fun d => (h2 d).trans (k2 d)⟩

@[simp] theorem settleAll_nil (s : State) : settleAll [] s = s := rfl

/-! ## Tables but for owed masks -/

theorem noOwed_bin (s : State) (n : Nat) : tableGet (noOwedTable s.bins) n = (s.bin n).map noOwed :=
  tableGet_map s.bins (fun p => noOwed p.2) n

/-- What settling leaves of a record: all but its owed mask. -/
theorem OffersOnly.bin {s t : State} (h : OffersOnly s t) (n : Nat) : (t.bin n).map noOwed = (s.bin n).map noOwed := by
  rw [← noOwed_bin, ← noOwed_bin, h.bins]

theorem OffersOnly.wf {s t : State} (h : OffersOnly s t) : tableWf t.bins = tableWf s.bins := by
  have key : ∀ b : SlotTable BinRecord, tableWf (noOwedTable b) = tableWf b := fun b => by
    simp [tableWf, noOwedTable, List.pairwise_map, List.all_map, Function.comp_def]
  rw [← key t.bins, h.bins, key]

theorem OffersOnly.occupied {s t : State} (h : OffersOnly s t) : t.occupied = s.occupied := by
  have := congrArg List.length h.bins
  simpa [noOwedTable, State.occupied] using this

/-! ## Detaching and purging -/

/-- Detaching writes the channel queues only (R121). -/
theorem detachSlot_bins (n : Nat) (s : State) : (detachSlot n s).bins = s.bins := rfl

theorem offersOnly_detachSlot (n : Nat) (s : State) : OffersOnly s (detachSlot n s) := { OffersOnly.refl s with }

theorem detachSlot_channel (n : Nat) (s : State) (d : Fin 8) :
    (detachSlot n s).channel d = { s.channel d with queue := (s.channel d).queue.map (detachCopy n) } := by
  simp [detachSlot, State.channel]

/-! ## The sweep -/

/-- The SWEEP_END placement: judged once, queued or left for later (R150). -/
theorem judgeSweepEnd_cases (s : State) :
    (s.sweepHasRoom = true ∧
      judgeSweepEnd s =
        (queueCopy (sweepEndOffer s) s.sweep.channel s).setSweep
          { s.sweep with state := .idle, lastEnd := s.sweep.pendingEnd.reason }) ∨
      (s.sweepHasRoom = false ∧ judgeSweepEnd s = s) := by
  unfold judgeSweepEnd
  cases h : s.sweepHasRoom
  · exact .inr ⟨rfl, by simp⟩
  · exact .inl ⟨rfl, by simp⟩

theorem judgeSweepEnd_bins (s : State) : (judgeSweepEnd s).bins = s.bins := by
  unfold judgeSweepEnd
  split
  · rfl
  · rfl

theorem notifySweep_bins (s : State) : (notifySweep s).bins = s.bins := by
  unfold notifySweep
  split
  · rfl
  · exact judgeSweepEnd_bins s
  · rfl
  · rfl

/-! ## Executions of held commands -/

/-- An execution that comes about: the length is checked, the block acts and the entry is answered (R166). -/
theorem carryOut_executing {s : State} {type : Byte} {body : List Byte} (h : Executing s type body)
    (lengthOk : Nat → Bool) (act : List Byte → State → State × Reply) :
    carryOut type lengthOk act s =
      if lengthOk body.length then (act body s).1.answerHeld (act body s).2 else s.answerHeld .badLength := by
  obtain ⟨h1, h2⟩ := h
  rw [Option.map_eq_some_iff] at h2
  obtain ⟨e, he, h2⟩ := h2
  cases h2
  simp [carryOut, he, h1]

/-- Everything an execution can do: nothing, a BAD_LENGTH reply, or the block's act and its reply (R166). -/
theorem carryOut_cases (type : Byte) (lengthOk : Nat → Bool) (act : List Byte → State → State × Reply) (s : State) :
    carryOut type lengthOk act s = s ∨ carryOut type lengthOk act s = s.answerHeld .badLength ∨
      ∃ body, Executing s type body ∧ lengthOk body.length = true ∧
        carryOut type lengthOk act s = (act body s).1.answerHeld (act body s).2 := by
  unfold carryOut
  split
  · exact .inl rfl
  · rename_i e he
    split
    · exact .inl rfl
    · rename_i h
      simp only [Bool.or_eq_true, not_or, Bool.not_eq_true, bne_eq_false_iff_eq] at h
      split
      · rename_i hl
        exact .inr (.inr ⟨e.body, ⟨h.1, by simp [he, h.2]⟩, hl, rfl⟩)
      · exact .inr (.inl rfl)

/-- The commands on a record: refused, or the act on the record found (R13). -/
theorem onRecord_cases (body : List Byte) (s : State) (act : Nat → BinRecord → State × Reply) :
    (∃ st, onRecord body s act = (s, .refusedIdentity st (identityAt body 0))) ∨
      ∃ slot r, s.find (identityAt body 0) = some (slot, r) ∧ onRecord body s act = act slot r := by
  unfold onRecord
  simp only
  split
  · exact .inl ⟨_, rfl⟩
  · split
    · exact .inl ⟨_, rfl⟩
    · rename_i slot r h
      exact .inr ⟨slot, r, h, rfl⟩

/-! ## Captures -/

/-- An answer made or not writes Capture Intake only (R42, R43). -/
theorem makeAnswer_frame (src : Source) (r : BinRecord) (q : BitVec 4) (v : Verdict) (s : State) :
    ∃ a k, makeAnswer src r q v s = s.setIntake { s.intake with answers := a, counters := k } := by
  unfold makeAnswer placeAnswer
  split
  · split
    · exact ⟨_, s.intake.counters, rfl⟩
    · exact ⟨_, _, rfl⟩
  · exact ⟨s.intake.answers, s.intake.counters, rfl⟩

/-! ## The ordered lists -/

theorem insertKey_perm (x : Nat × Nat) (l : List (Nat × Nat)) : (insertKey x l).Perm (x :: l) := by
  induction l with
  | nil => exact .refl _
  | cons y l ih =>
    simp only [insertKey]
    split
    · exact .refl _
    · exact (ih.cons y).trans (.swap x y l)

/-- A sorted list holds what was put in it. -/
theorem sortKeys_perm (l : List (Nat × Nat)) : (sortKeys l).Perm l := by
  induction l with
  | nil => exact .refl _
  | cons x l ih => exact (insertKey_perm x _).trans (ih.cons x)

/-- The order of both lists: key ascending, ties in ascending slot (R76, R91). -/
def keyLe (x y : Nat × Nat) : Prop := x.1 < y.1 ∨ x.1 = y.1 ∧ x.2 ≤ y.2

theorem insertKey_sorted {x : Nat × Nat} {l : List (Nat × Nat)} (h : l.Pairwise keyLe) :
    (insertKey x l).Pairwise keyLe := by
  induction l with
  | nil => simp [insertKey]
  | cons y l ih =>
    rw [List.pairwise_cons] at h
    simp only [insertKey]
    split
    · rename_i hxy
      refine List.pairwise_cons.mpr ⟨fun z hz => ?_, List.pairwise_cons.mpr h⟩
      rcases List.mem_cons.mp hz with rfl | hz
      · exact hxy
      · have := h.1 z hz
        simp only [keyLe] at *
        omega
    · rename_i hxy
      refine List.pairwise_cons.mpr ⟨fun z hz => ?_, ih h.2⟩
      rcases List.mem_cons.mp ((insertKey_perm x l).mem_iff.mp hz) with rfl | hz
      · simp only [keyLe] at *
        omega
      · exact h.1 z hz

theorem sortKeys_sorted (l : List (Nat × Nat)) : (sortKeys l).Pairwise keyLe := by
  induction l with
  | nil => exact .nil
  | cons x l ih => exact insertKey_sorted ih

end Sys2Proof.Machine
end

