-- ==== Sys2Proof/Tests/Slice0.lean ====
section
/-! SUPPORT. The model's own tests: the WellFormed smoke, the manual's worked cases one step at a time, and for every
statement with hypotheses a state and operands that meet them (each clause, at its boundary values). -/

namespace Sys2Proof.Tests

open Sys2Proof Sys2Proof.Machine

set_option Elab.async false

/-! ## Small states -/

/-- The state right after reset with one held command of this type and body. -/
def executing (type : Byte) (body : List Byte) (s : State) : State :=
  s.setLink { s.link with commands := [{ type := type, tag := 7#8, body := body, condition := .held }] }

theorem executing_spec (type : Byte) (body : List Byte) (s : State) (h : s.link.restartPending = false) :
    Executing (executing type body s) type body := ⟨h, rfl⟩

/-- The state after a command's event. -/
def run (i : Instr) (s : State) : State :=
  match exec i s with
  | .next t => t
  | .fault _ => s
  | .refused _ => s

/-- The state after reset with these records and this uptime. -/
def stateAt (uptime : Nat) (bins : SlotTable BinRecord) : State :=
  (State.reset.setBins bins).setClock { uptime := uptime, walked := uptime, checked := uptime, aged := uptime }

/-- A newly enrolled record of profile 2 and district 4. -/
def fresh (id : Identity) : BinRecord := newRecord id 2 4 .answered none 0 {}

/-- A measured record on the Urgency List. -/
def listed (id : Identity) (band : Band) (due : Nat) : BinRecord :=
  { fresh id with
    standing := .active, fill := some 500, window := [500], lastReading := some 0, rate := 100, rateValid := true
    band := band, hours := 3, due := some due }

/-- The state after reset with one channel other than it is then. -/
def withChannel (c : Fin 8) (ch : Channel) (s : State) : State := s.putChannel c ch

/-- A channel that takes everything. -/
def openChannel (credit : Nat) (queue : List Copy) : Channel :=
  { enabled := true, kindMask := 0x7F#8, profileMask := 0xFFFF#16, districtMask := 0xFFFFFFFF#32, credit := credit
    queue := queue }

/-- A copy that concerns no record. -/
def plainCopy : Copy := { report := { unset := true, time := 0, body := .sweepEnd .complete 0 0 0 }, ref := .absent }

/-- A copy attached to a slot. -/
def attachedCopy (slot : Nat) : Copy := { plainCopy with ref := .attached slot }

/-- An Intake Queue entry of a reading. -/
def reading (slot arrival distance : Nat) (lid tilt : Bool) (battery : Nat) : IntakeEntry :=
  { slot := slot, content := .reading distance lid tilt battery, rssi := -80, antenna := 1, arrival := arrival }

/-- An Intake Queue entry of a join. -/
def joined (slot arrival : Nat) : IntakeEntry :=
  { slot := slot, content := .join, rssi := -80, antenna := 1, arrival := arrival }

/-- The state with this Intake Queue. -/
def withIntake (q : List IntakeEntry) (s : State) : State := s.setIntake { s.intake with queue := q }

/-- A stranger heard once at an uptime. -/
def stranger (id : Identity) (heard : Nat) : StrangerEntry :=
  { identity := id, firstHeard := heard, lastHeard := heard, heardCount := 1, lastSeq := 9#4, bestRssi := -90
    bestAntenna := 0, joined := false }

/-- The state with this Stranger List. -/
def withStrangers (l : List StrangerEntry) (s : State) : State := s.setStrangers { s.strangers with entries := l }

/-- So many distinct strangers. -/
def crowd (n : Nat) : List StrangerEntry := (List.range n).map fun k => stranger (BitVec.ofNat 32 (k + 1000)) 0

/-- A table whose lowest slots are all occupied. -/
def filled (n : Nat) : SlotTable BinRecord := (List.range n).map fun k => (k, fresh (BitVec.ofNat 32 (k + 1000)))

theorem filled_get {n k : Nat} (h : k < n) : tableGet (filled n) k ≠ none := by
  have hp : (filled n).Pairwise fun p q => p.1 < q.1 := by
    unfold filled
    exact List.pairwise_map.mpr List.pairwise_lt_range
  have hm : (k, fresh (BitVec.ofNat 32 (k + 1000))) ∈ filled n :=
    List.mem_map.mpr ⟨k, List.mem_range.mpr h, rfl⟩
  rw [tableGet_of_pairwise hp hm]
  exact Option.some_ne_none _

theorem filled_find {n : Nat} {id : Identity} (hn : n ≤ 4096) (h : id.toNat < 1000) :
    (filled n).find? (fun p => p.2.identity == id) = none := by
  rw [List.find?_eq_none]
  intro p hp
  obtain ⟨k, hk, rfl⟩ := List.mem_map.mp hp
  have hk := List.mem_range.mp hk
  simp only [fresh, newRecord, beq_iff_eq]
  intro e
  have := congrArg BitVec.toNat e
  simp only [BitVec.toNat_ofNat] at this
  omega

theorem filled_vacant {n k : Nat} (h : n ≤ k) : tableGet (filled n) k = none := by
  cases e : tableGet (filled n) k with
  | none => rfl
  | some v =>
    obtain ⟨j, hj, hp⟩ := List.mem_map.mp (mem_of_tableGet e)
    have := List.mem_range.mp hj
    have : j = k := congrArg Prod.fst hp
    omega

/-! ## Well-formed rows, and what the check refuses -/

theorem test_wellFormed_capture_refused : (Instr.capture (frameBytes 0x21#8 0#8 [])).wellFormed = false := by
  decide +kernel

theorem test_wellFormed_unknownType_refused : (Instr.unknownType (frameBytes 0x20#8 0#8 [])).wellFormed = false := by
  decide +kernel

theorem test_wellFormed_framesBad_refused : (Instr.framesBad .field (frameBytes 0x20#8 0#8 [])).wellFormed = false := by
  decide +kernel

theorem test_wellFormed_framesOverlong_refused : (Instr.framesOverlong .planner [0xC3#8, 0#8, 2#8]).wellFormed = false := by
  decide +kernel

theorem test_wellFormed_commandArrival_refused : (Instr.commandArrival [0xC3#8, 0#8, 2#8, 1#8]).wellFormed = false := by
  decide +kernel

theorem test_wellFormed_accepted :
    (Instr.capture (frameBytes 0x20#8 0#8 [])).wellFormed = true ∧
    (Instr.unknownType (frameBytes 0x21#8 0#8 [])).wellFormed = true ∧
    (Instr.framesBad .field [0xC3#8, 0#8, 2#8, 1#8, 1#8, 0#8, 0#8]).wellFormed = true ∧
    (Instr.framesOverlong .planner [0xC3#8, 0#8, 1#8]).wellFormed = true ∧
    (Instr.commandArrival (frameBytes 0x13#8 5#8 [])).wellFormed = true := by
  decide +kernel

/-! ## Frames -/

/-- The check value of R30: ASCII "123456789" gives 0x29B1. -/
theorem test_crc_check_value :
    crc16 [0x31#8, 0x32#8, 0x33#8, 0x34#8, 0x35#8, 0x36#8, 0x37#8, 0x38#8, 0x39#8] = 0x29B1#16 := by
  decide +kernel

theorem test_witness_StepTakesFrontCommand :
    (State.reset.setPending [.enrol, .bar]).pending = .enrol :: [.bar] := rfl

theorem test_witness_SecondsAreCounted :
    State.reset.pending = [] ∧ State.reset.clock.divider + 1 < 32768 ∧
    (∃ s : State, s.pending = [] ∧ s.clock.divider = 32766 ∧ s.clock.divider + 1 < 32768) ∧
    ∃ s : State, s.pending = [] ∧ s.clock.divider = 32767 ∧ 32768 ≤ s.clock.divider + 1 :=
  ⟨rfl, by decide, ⟨State.reset.setClock { divider := 32766 }, by decide⟩,
    State.reset.setClock { divider := 32767 }, by decide⟩

theorem test_witness_FrameRoundTrip :
    (∀ b ∈ [0x00#8, 0x20#8], b ≠ 0xC3#8) ∧ (List.replicate 598 0xC3#8 : List Byte).length ≤ 598 := by
  decide +kernel

theorem test_witness_ReceiverDiscards :
    (∀ b ∈ ([] : List Byte), b ≠ 0xC3#8) ∧ (∀ b ∈ [0#8, 1#8], b ≠ 0xC3#8) ∧
    (0#8).toNat * 256 + (1#8).toNat < 2 ∧ 600 < (2#8).toNat * 256 + (0x59#8).toNat ∧
    (2 ≤ (0#8).toNat * 256 + (2#8).toNat ∧ ([1#8, 1#8, 0#8] : List Byte).length < (0#8).toNat * 256 + (2#8).toNat + 2) ∧
    (2 ≤ (0#8).toNat * 256 + (2#8).toNat ∧
      (0#8).toNat * 256 + (2#8).toNat + 2 ≤ ([1#8, 1#8, 0#8, 0#8] : List Byte).length ∧
      crc16 (0#8 :: 2#8 :: [1#8, 1#8, 0#8, 0#8].take ((0#8).toNat * 256 + (2#8).toNat)) ≠
        BitVec.ofNat 16 (nat16At [1#8, 1#8, 0#8, 0#8] ((0#8).toNat * 256 + (2#8).toNat))) := by
  decide +kernel

/-- A list of any length whose next two bytes are no CRC of it. -/
theorem mismatch_any_length (h l : Byte) (n : Nat) : ∃ more : List Byte, n + 2 ≤ more.length ∧
    crc16 (h :: l :: more.take n) ≠ BitVec.ofNat 16 (nat16At more n) := by
  have hl : (List.replicate n 0#8).length = n := List.length_replicate
  generalize List.replicate n (0#8) = base at hl
  by_cases hc : crc16 (h :: l :: base) = 0#16
  · refine ⟨base ++ [0#8, 1#8], by simp [hl], ?_⟩
    rw [List.take_left' hl, hc]
    subst hl
    simp [nat16At, byteAt]
  · refine ⟨base ++ [0#8, 0#8], by simp [hl], ?_⟩
    rw [List.take_left' hl]
    subst hl
    simpa [nat16At, byteAt] using hc

theorem test_witness_ReceiverDiscards_longest :
    (2#8).toNat * 256 + (0x58#8).toNat = 600 ∧ (∃ more : List Byte, more.length < 602) ∧
    ∃ more : List Byte, 600 + 2 ≤ more.length ∧
      crc16 (2#8 :: 0x58#8 :: more.take 600) ≠ BitVec.ofNat 16 (nat16At more 600) :=
  ⟨by decide, ⟨[], by decide⟩, mismatch_any_length _ _ _⟩

theorem test_witness_ArrivalsAndDiscards :
    State.reset.link.resetLow = false ∧
    findFrame (State.reset.link.fieldHeld ++ [0xC3#8, 0#8, 2#8, 1#8, 1#8, 0#8, 0#8]) = .bad [] ∧
    findFrame (State.reset.link.plannerHeld ++ [0xC3#8, 0#8, 2#8, 1#8, 1#8, 0#8, 0#8]) = .bad [] ∧
    findFrame (State.reset.link.fieldHeld ++ [0xC3#8, 0#8, 1#8]) = .overlong [] ∧
    findFrame (State.reset.link.plannerHeld ++ [0xC3#8, 2#8, 0x59#8]) = .overlong [] ∧
    findFrame (State.reset.link.fieldHeld ++ frameBytes 0x21#8 0#8 []) = .arrived 0x21#8 0#8 [] [] := by
  decide +kernel

/-- A Command Queue with so many held commands. -/
def commandsHeld (n : Nat) : State :=
  State.reset.setLink { State.reset.link with commands := List.replicate n ⟨0x13#8, 1#8, [], .held⟩ }

theorem test_witness_ArrivalsAndDiscards_queue :
    (∃ s : State, s.link.resetLow = false ∧ s.link.commands.length = 3 ∧
      findFrame (s.link.plannerHeld ++ frameBytes 0x13#8 5#8 []) = .arrived 0x13#8 5#8 [] []) ∧
    ∃ s : State, s.link.resetLow = false ∧ s.link.commands.length = 4 ∧
      findFrame (s.link.plannerHeld ++ frameBytes 0x13#8 5#8 []) = .arrived 0x13#8 5#8 [] [] :=
  ⟨⟨commandsHeld 3, by decide +kernel⟩, commandsHeld 4, by decide +kernel⟩

theorem test_witness_ResetLineHoldsLinks :
    (State.reset.setLink { State.reset.link with resetLow := true }).link.resetLow = true := rfl

/-! ## Captures -/

/-- A sensor frame whose last two bytes are its CRC. -/
def sealed (covered : List Byte) : List Byte := covered ++ be16 (crc16 covered).toNat

theorem test_SensorFrameChecks :
    checkFrame 32 (List.replicate 33 0#8) = .failed .long ∧
    checkFrame 32 (List.replicate 6 0#8) = .failed .short ∧
    checkFrame 32 (List.replicate 7 0#8) = .failed .check ∧
    checkFrame 32 (List.replicate 32 0#8) = .failed .check ∧
    checkFrame 32 (sealed [0#8, 0#8, 0#8, 1#8, 0x30#8]) = .failed .kind ∧
    checkFrame 32 (sealed [0#8, 0#8, 0#8, 1#8, 0x33#8]) = .failed .kind ∧
    checkFrame 32 (sealed [0#8, 0#8, 0#8, 1#8, 0x31#8, 0#8, 0#8]) = .failed .short ∧
    checkFrame 32 (sealed [0#8, 0#8, 0#8, 0#8, 0x32#8]) = .failed .kind ∧
    checkFrame 32 (sealed [0xFF#8, 0xFF#8, 0xFF#8, 0xFF#8, 0x31#8, 0#8, 0#8, 0#8]) = .failed .kind := by
  decide +kernel

/-- The bits of a reading and of a join written out from R178: sequence 3, distance 830, lid set, battery 71. -/
theorem test_sensor_words :
    checkFrame 32 (sealed [0x00#8, 0xB3#8, 0x20#8, 0x7E#8, 0x31#8, 0x13#8, 0x3E#8, 0x47#8]) =
      .good { identity := 0x00B3207E#32, seq := 3#4, content := .reading 830 true false 71 } ∧
    checkFrame 32 (sealed [0x00#8, 0xB3#8, 0x20#8, 0x7E#8, 0xF2#8]) =
      .good { identity := 0x00B3207E#32, seq := 15#4, content := .join } ∧
    sealed [0x00#8, 0xB3#8, 0x20#8, 0x7E#8, 0x31#8, 0x13#8, 0x3E#8, 0x47#8] =
      readingFrame 0x00B3207E#32 3#4 830 true false 71 := by
  decide +kernel

/-- R30 and R178: the word's top two bits and the body bytes beyond the kind's length are ignored. -/
theorem test_sensor_ignored_bits :
    checkFrame 32 (sealed [0x00#8, 0xB3#8, 0x20#8, 0x7E#8, 0x31#8, 0xD3#8, 0x3E#8, 0x47#8, 0xAA#8, 0xBB#8]) =
      .good { identity := 0x00B3207E#32, seq := 3#4, content := .reading 830 true false 71 } ∧
    checkFrame 32 (sealed [0x00#8, 0xB3#8, 0x20#8, 0x7E#8, 0xF2#8, 0xAA#8]) =
      .good { identity := 0x00B3207E#32, seq := 15#4, content := .join } := by
  decide +kernel

theorem test_witness_SensorFrameRoundTrip :
    (10 ≤ 10 ∧ (1#32 : Identity) ≠ 0#32 ∧ (0xFFFFFFFE#32 : Identity) ≠ 0xFFFFFFFF#32 ∧ 4095 < 4096 ∧ 255 < 256) ∧
    3 < 4 ∧ (be32 1 ++ byteOf (15 * 16 + 2) :: []).length + 2 ≤ 7 ∧
    (be32 1 ++ byteOf (15 * 16 + 1) :: (be16 (3 * 16384 + 8192 + 4096 + 4095) ++ byteOf 255 :: [1#8, 2#8])).length + 2 ≤
      12 := by
  decide

theorem test_witness_SequenceWindowClasses :
    15 = ((1#4).toNat + 16 - (2#4).toNat) % 16 ∧ 0 = ((14#4).toNat + 16 - (14#4).toNat) % 16 ∧
    7 = ((5#4).toNat + 16 - (14#4).toNat) % 16 ∧ 8 = ((10#4).toNat + 16 - (2#4).toNat) % 16 ∧
    14 = ((0#4).toNat + 16 - (2#4).toNat) % 16 := by
  decide

/-- The rows of the window's worked sequence (02_capture_intake.md). -/
theorem test_window_sequence :
    windowClass (some 14#4) false 14#4 = .admissible 0 ∧ windowClass (some 15#4) false 1#4 = .admissible 2 ∧
    windowClass (some 2#4) false 1#4 = .duplicate ∧ windowClass (some 2#4) false 14#4 = .stale ∧
    windowClass (some 2#4) true 0#4 = .admissible 0 ∧ windowClass (some 2#4) false 10#4 = .stale := by
  decide

theorem test_witness_CaptureIsTaken :
    Delivers State.reset (frameBytes 0x20#8 0#8 [1#8, 0xB0#8, 5#8]) (1#8 :: 0xB0#8 :: [5#8]) [] ∧
    ([1#8] : List Byte).length < 2 ∧ Delivers State.reset (frameBytes 0x20#8 0#8 [1#8]) [1#8] [] ∧
    ([] : List Byte).length < 2 ∧ Delivers State.reset (frameBytes 0x20#8 0#8 [] ++ [0xC3#8]) [] [0xC3#8] :=
  ⟨⟨rfl, 0#8, by decide +kernel⟩, by decide, ⟨rfl, 0#8, by decide +kernel⟩, by decide, rfl, 0#8, by decide +kernel⟩

theorem test_witness_InjectIsTaken (frame : List Byte) :
    65535 < 65536 ∧ (∃ f : List Byte, f.length = 594) ∧
    Executing (executing 0x07#8 (injectBody 65535 1#8 0xB0#8 frame) State.reset) 0x07#8
      (injectBody 65535 1#8 0xB0#8 frame) :=
  ⟨by decide, ⟨List.replicate 594 0#8, List.length_replicate⟩, executing_spec _ _ _ rfl⟩

/-- The bin of the window's worked sequence: slot 7, ANSWERED, expectation 14. -/
def windowBin (mode : AckMode) (e : Option (BitVec 4)) (st : Standing) : BinRecord :=
  { fresh 0x00A10433#32 with ackMode := mode, expectation := e, standing := st }

/-- A capture of a reading of that bin. -/
def windowCapture (source : Source) (seq : BitVec 4) : Capture :=
  { source := source, arrival := 100, heard := some (-80, 1)
    frame := readingFrame 0x00A10433#32 seq 800 false false 90 }

theorem test_witness_CaptureSettledAtOnce :
    checkFrame State.reset.intake.captureLimit [] = .failed .short ∧
    (∃ g, checkFrame 32 (windowCapture .field 1#4).frame = .good g ∧ g.seq = 1#4 ∧ g.identity = 0x00A10433#32 ∧
      windowClass (some 2#4) (g.content = .join) g.seq = .duplicate ∧
      windowClass (some 3#4) (g.content = .join) g.seq = .stale) ∧
    (stateAt 100 [(7, windowBin .answered (some 2#4) .barred)]).find 0x00A10433#32 =
      some (7, windowBin .answered (some 2#4) .barred) ∧
    (windowBin .answered (some 2#4) .active).standing ≠ .barred :=
  ⟨by decide +kernel, ⟨{ identity := 0x00A10433#32, seq := 1#4, content := .reading 800 false false 90 },
    by decide +kernel⟩, by decide +kernel, by decide⟩

/-- The bin of the worked sequence with an Intake Queue of a length, and a reading of sequence 14 taken. -/
def pressed (source : Source) (mode : AckMode) (queued : Nat) : State × CaptureOutcome :=
  takeCapture (windowCapture source 14#4)
    (withIntake (List.replicate queued (joined 7 0)) (stateAt 100 [(7, windowBin mode (some 14#4) .active)]))

/-- The queue under pressure: the hold threshold, the last place, and no place (R37 to R39). -/
theorem test_CaptureAdmission_places :
    (pressed .field .answered 47).2 = .accepted ∧ (pressed .field .answered 48).2 = .held ∧
    (pressed .field .unanswered 63).2 = .accepted ∧ (pressed .field .unanswered 64).2 = .overrun ∧
    (pressed .relayed .answered 63).2 = .accepted ∧ (pressed .relayed .unanswered 64).2 = .held := by
  decide +kernel

/-- The Answer Queue after the ACCEPT and the HOLD of a field capture. -/
theorem test_CaptureAdmission_answers :
    (pressed .field .answered 47).1.intake.answers = [⟨0x00A10433#32, 14#4, .accept⟩] ∧
    (pressed .field .answered 48).1.intake.answers = [⟨0x00A10433#32, 14#4, .hold⟩] ∧
    (pressed .field .unanswered 47).1.intake.answers = [] ∧
    ((pressed .field .answered 47).1.bin 7).map BinRecord.expectation = some (some 15#4) ∧
    ((pressed .field .answered 48).1.bin 7).map BinRecord.expectation = some (some 14#4) := by
  decide +kernel

theorem test_witness_CaptureAdmission :
    (∃ g, checkFrame 32 (windowCapture .field 14#4).frame = .good g ∧
      (stateAt 100 [(7, windowBin .answered (some 14#4) .active)]).find g.identity =
        some (7, windowBin .answered (some 14#4) .active) ∧
      windowClass (some 14#4) (g.content = .join) g.seq = .admissible 0 ∧
      windowClass (some 7#4) (g.content = .join) g.seq = .admissible 7) ∧
    (windowCapture .field 14#4).heard = some (-80, 1) ∧ (windowBin .answered (some 14#4) .active).standing ≠ .barred ∧
    (List.replicate 63 (joined 7 0)).length < 64 ∧ 64 ≤ (List.replicate 64 (joined 7 0)).length ∧
    State.reset.intake.holdThreshold = 48 :=
  ⟨⟨{ identity := 0x00A10433#32, seq := 14#4, content := .reading 800 false false 90 }, by decide +kernel⟩, rfl,
    by decide, by decide, by decide, rfl⟩

/-- A stranger's reading, with a Stranger List of so many others. -/
def strangerHeard (others : List StrangerEntry) : State :=
  (takeCapture (windowCapture .field 14#4) (withStrangers others (stateAt 100 []))).1

/-- Heard again with another sequence number; heard first with 31 others; heard with a full list (R109 to R111). -/
theorem test_StrangerHeard :
    (strangerHeard [stranger 0x00A10433#32 5]).strangers.entries =
      [{ stranger 0x00A10433#32 5 with
         lastHeard := 100, heardCount := 2, lastSeq := 14#4, bestRssi := -80, bestAntenna := 1 }] ∧
    (strangerHeard (crowd 31)).strangers.entries.length = 32 ∧
    (strangerHeard (crowd 32)).strangers.entries = crowd 32 ∧
    (strangerHeard (crowd 32)).intake.counters.strangerOverflow = 1 := by
  decide +kernel

theorem test_witness_StrangerHeard :
    (∃ g, checkFrame 32 (windowCapture .field 14#4).frame = .good g ∧ (stateAt 100 []).find g.identity = none ∧
      (∃ e ∈ [stranger 0x00A10433#32 5], e.identity = g.identity) ∧
      (∀ e ∈ crowd 32, e.identity ≠ g.identity)) ∧
    (crowd 31).length < 32 ∧ 32 ≤ (crowd 32).length :=
  ⟨⟨{ identity := 0x00A10433#32, seq := 14#4, content := .reading 800 false false 90 }, by decide +kernel⟩,
    by decide +kernel, by decide +kernel⟩

/-- The state with so many answers waiting. -/
def answersWaiting (n : Nat) : State :=
  State.reset.setIntake { State.reset.intake with answers := List.replicate n ⟨1#32, 0#4, .accept⟩ }

theorem test_witness_AnswerLinkMoves :
    (answersWaiting 15).intake.answers.length < 16 ∧
    (∃ rest, (answersWaiting 16).intake.answers = ⟨1#32, 0#4, .accept⟩ :: rest) ∧
    16 ≤ (answersWaiting 16).intake.answers.length ∧ (answersWaiting 16).link.resetLow = false ∧
    (answersWaiting 16).intake.transmitter = .idle ∧
    ∃ frame, (run .answerTransmissionBegin (answersWaiting 1)).intake.transmitter =
      .sending ⟨1#32, 0#4, .accept⟩ frame :=
  ⟨by decide, ⟨_, rfl⟩, by decide, rfl, rfl, _, rfl⟩

/-- The answer frame of R177 and R178: type 0x21, tag 0, identity, sequence number, verdict. -/
theorem test_answer_frame :
    (run .answerTransmissionBegin (answersWaiting 2)).intake.transmitter =
      .sending ⟨1#32, 0#4, .accept⟩ (0xC3#8 :: sealed [0#8, 8#8, 0x21#8, 0#8, 0#8, 0#8, 0#8, 1#8, 0#8, 1#8]) ∧
    (run .answerTransmissionBegin (answersWaiting 2)).intake.answers.length = 1 := by
  decide +kernel

/-! ## The Bin Table -/

theorem test_witness_EnrolCreatesRecord :
    (∀ slot ∈ [0, 1, 4095], slot < 4096) ∧
    ∀ slot ∈ [0, 1, 4095],
      Executing (executing 0x01#8 (enrolBody 1#32 15 31 1) (stateAt 0 (filled slot))) 0x01#8
        (enrolBody 1#32 (15 : Fin 16) (31 : Fin 32) AckMode.answered.code) ∧
      (1#32 : Identity) ≠ 0#32 ∧ (1#32 : Identity) ≠ 0xFFFFFFFF#32 ∧
      (executing 0x01#8 (enrolBody 1#32 15 31 1) (stateAt 0 (filled slot))).find 1#32 = none ∧
      (executing 0x01#8 (enrolBody 1#32 15 31 1) (stateAt 0 (filled slot))).bin slot = none ∧
      ∀ n, n < slot → (executing 0x01#8 (enrolBody 1#32 15 31 1) (stateAt 0 (filled slot))).bin n ≠ none := by
  refine ⟨by decide, fun slot h => ⟨executing_spec _ _ _ rfl, by decide, by decide, ?_, ?_, fun n hn => filled_get hn⟩⟩
  · refine filled_find ?_ (by decide)
    simp only [List.mem_cons, List.not_mem_nil, or_false] at h
    omega
  · exact filled_vacant (le_refl _)

/-- ENROL of the worked sequence: slots 0, 2 and 3 are occupied, the stranger's last sequence number is 9. -/
def enrolled : State :=
  run .enrol (executing 0x01#8 (enrolBody 0x0004A1C7#32 2 11 1)
    (withStrangers [stranger 0x0004A1C7#32 900] (stateAt 1000 [(0, fresh 1#32), (2, fresh 2#32), (3, fresh 3#32)])))

theorem test_ENROL :
    enrolled.occupied = 4 ∧ enrolled.strangers.entries = [] ∧
    (enrolled.bin 1).map (fun r => (r.standing, r.expectation, r.fill, r.hours)) =
      some (.enrolled, some 10#4, none, 65535) ∧
    (enrolled.bin 1).map (fun r => (r.band, r.lastHeard, r.enrolTime, r.deadline)) =
      some (.none, 1000, 1000, 87400) ∧
    (87400, 1) ∈ enrolled.silenceList ∧ enrolled.urgencyList = [] ∧
    enrolled.link.commands.map Command.condition = [.answered (.enrolled 1)] := by
  decide +kernel

theorem test_witness_BinTableRefusals_enrol :
    (∀ x ∈ [enrolBody 0#32 0 0 0, enrolBody 0xFFFFFFFF#32 0 0 0, enrolBody 1#32 16 0 0, enrolBody 1#32 0 32 0,
        enrolBody 1#32 0 0 2, enrolBody 1#32 255 255 255, enrolBody 1#32 15 31 1],
      Executing (executing 0x01#8 x State.reset) 0x01#8 x) ∧
    (executing 0x01#8 (enrolBody 1#32 15 31 1) (stateAt 0 [(0, fresh 1#32)])).find 1#32 ≠ none :=
  ⟨fun _ _ => executing_spec _ _ _ rfl, by decide +kernel⟩

/-- A table with no vacant slot: `slots` is 4096. -/
theorem test_witness_BinTableRefusals_full (slots : Nat) (h : slots = 4096) :
    Executing (executing 0x01#8 (enrolBody 1#32 15 31 1) (stateAt 0 (filled slots))) 0x01#8 (enrolBody 1#32 15 31 1) ∧
    (executing 0x01#8 (enrolBody 1#32 15 31 1) (stateAt 0 (filled slots))).find 1#32 = none ∧
    ∀ n, n < 4096 → (executing 0x01#8 (enrolBody 1#32 15 31 1) (stateAt 0 (filled slots))).bin n ≠ none :=
  ⟨executing_spec _ _ _ rfl, filled_find (le_of_eq h) (by decide), fun _ hn => filled_get (by omega)⟩

theorem test_witness_BinTableRefusals_others :
    (∀ id ∈ [0#32, 0xFFFFFFFF#32, 1#32],
      Executing (executing 0x02#8 (amendBody id (some 3) none (some 1)) State.reset) 0x02#8
        (amendBody id (some 3) none (some 1)) ∧
      ∀ type ∈ [0x03#8, 0x04#8, 0x05#8, 0x06#8],
        Executing (executing type (identityBody id) State.reset) type (identityBody id)) ∧
    State.reset.find 1#32 = none :=
  ⟨fun _ _ => ⟨executing_spec _ _ _ rfl, fun _ _ => executing_spec _ _ _ rfl⟩, rfl⟩

theorem test_witness_AmendWithoutProfile :
    (executing 0x02#8 (amendBody 1#32 none (some 31) (some 0)) (stateAt 0 [(5, fresh 1#32)])).find 1#32 =
      some (5, fresh 1#32) ∧
    (∀ x ∈ [amendBody 1#32 (some 16) none none, amendBody 1#32 none (some 32) none, amendBody 1#32 none none (some 2),
        amendBody 1#32 none none none, amendBody 1#32 (some 2) (some 31) (some 1)],
      Executing (executing 0x02#8 x (stateAt 0 [(5, fresh 1#32)])) 0x02#8 x) ∧
    (fresh 1#32).profile.val = 2 :=
  ⟨by decide +kernel, fun _ _ => executing_spec _ _ _ rfl, rfl⟩

/-- AMEND to profile 3, whose depths differ, of a measured record; and of a BARRED one. -/
theorem test_witness_AmendChangesProfile :
    Executing (executing 0x02#8 (amendBody 1#32 (some (3 : Fin 16)) (some 31) none)
      (stateAt 0 [(5, listed 1#32 .soon 10800)])) 0x02#8 (amendBody 1#32 (some (3 : Fin 16)) (some 31) none) ∧
    (stateAt 0 [(5, listed 1#32 .soon 10800)]).find 1#32 = some (5, listed 1#32 .soon 10800) ∧
    (3 : Fin 16) ≠ (listed 1#32 .soon 10800).profile ∧ (listed 1#32 .soon 10800).standing ≠ .barred ∧
    { listed 1#32 .soon 10800 with standing := .barred }.standing = .barred ∧
    (listed 1#32 .soon 10800).lastReading = some 0 ∧
    ((fresh 1#32).fill = none ∧ (fresh 1#32).conditions.overfull = false ∧ (fresh 1#32).rateValid = false) ∧
    project (some 500) false 100 true 800 0 = (48, some 172800) ∧ bandOf 48 (some 172800) 0 43200 = (.later, false) :=
  ⟨executing_spec _ _ _ rfl, by decide +kernel, by decide +kernel, by decide, rfl, rfl, by decide, by decide +kernel,
    by decide +kernel⟩

/-- A record in slot 5 with two Intake Queue entries and an attached copy on channel 0. -/
def busyBin (r : BinRecord) : State :=
  withChannel 0 (openChannel 0 [attachedCopy 5, plainCopy, attachedCopy 6])
    (withIntake [joined 5 0, joined 6 0, joined 5 1] (stateAt 0 [(5, r), (6, fresh 2#32)]))

theorem test_RETIRE :
    (run .retire (executing 0x03#8 (identityBody 1#32) (busyBin (fresh 1#32)))).bin 5 = none ∧
    (run .retire (executing 0x03#8 (identityBody 1#32) (busyBin (fresh 1#32)))).intake.queue = [joined 6 0] ∧
    (run .retire (executing 0x03#8 (identityBody 1#32) (busyBin (fresh 1#32)))).intake.counters.purged = 2 ∧
    ((run .retire (executing 0x03#8 (identityBody 1#32) (busyBin (fresh 1#32)))).channel 0).queue.map Copy.ref =
      [.detached, .absent, .attached 6] := by
  decide +kernel

theorem test_witness_RetireBarUnbar :
    (∀ type ∈ [0x03#8, 0x04#8, 0x05#8], ∀ r, Executing (executing type (identityBody 1#32) (busyBin r)) type
      (identityBody 1#32)) ∧
    (∀ st ∈ [Standing.enrolled, .active, .silent, .barred],
      (busyBin { fresh 1#32 with standing := st }).find 1#32 = some (5, { fresh 1#32 with standing := st })) :=
  ⟨fun _ _ _ => executing_spec _ _ _ rfl, by decide +kernel⟩

/-- UNBAR of a record whose stored due time has passed: ACTIVE, DUE by projection, LAPSE absent, one DUE offer. -/
def unbarred : State :=
  run .unbar (executing 0x05#8 (identityBody 1#32) (withChannel 1 (openChannel 1 []) (stateAt 20000
    [(5, { listed 1#32 .none 10800 with standing := .barred, conditions := { lapse := true } })])))

theorem test_UNBAR :
    (unbarred.bin 5).map (fun r => (r.standing, r.band, r.projected, r.deadline)) =
      some (.active, .due, true, 106400) ∧
    (unbarred.bin 5).map BinRecord.conditions = some {} ∧ (unbarred.channel 1).queue.length = 1 ∧
    unbarred.urgencyList = [(10800, 5)] := by
  decide +kernel

theorem test_BAR :
    (run .bar (executing 0x04#8 (identityBody 1#32) (busyBin (listed 1#32 .soon 10800)))).urgencyList = [] ∧
    ((run .bar (executing 0x04#8 (identityBody 1#32) (busyBin (listed 1#32 .soon 10800)))).bin 5).map
      (fun r => (r.standing, r.band, r.hours, r.due)) = some (.barred, .none, 3, some 10800) := by
  decide +kernel

theorem test_witness_ReadingCommandsChangeNothing :
    Executing (executing 0x06#8 (identityBody 1#32) (stateAt 0 [(4095, fresh 1#32)])) 0x06#8 (identityBody 1#32) ∧
    (stateAt 0 [(4095, fresh 1#32)]).find 1#32 = some (4095, fresh 1#32) ∧
    Executing (executing 0x0C#8 [] State.reset) 0x0C#8 [] ∧ Executing (executing 0x13#8 [] State.reset) 0x13#8 [] :=
  ⟨executing_spec _ _ _ rfl, by decide +kernel, executing_spec _ _ _ rfl, executing_spec _ _ _ rfl⟩

/-! ## Fill Estimation -/

/-- The glass bank profile of 03_fill_estimation.md. -/
def glass : Profile :=
  { emptyDepth := 1600, fullDepth := 250, threshold := 850, fillWeight := 6, rateWeight := 4, median := true
    emptiedDrop := 300, reportStep := 20, silenceLimit := 1440 }

/-- The glass bin before the case. -/
def glassBin : BinRecord :=
  { fresh 0x00B3207E#32 with
    standing := .active, profile := 3, fill := some 512, window := [560, 505], rate := 40, rateValid := true
    lastReading := some 28800, lastReported := some 505, hours := 136, due := some 518400, band := .later }

/-- The glass bin's slot with a reading to estimate at its arrival time, and channel 1 open. -/
def glassState (r : BinRecord) (arrival distance : Nat) (lid : Bool) : State :=
  withChannel 1 (openChannel 9 []) (withIntake [reading 412 arrival distance lid false 71]
    ((stateAt arrival [(412, r)]).setProfiles (State.reset.profiles.set 3 glass)))

/-- The glass bin after the first reading of the case. -/
def glassBin1 : BinRecord :=
  { glassBin with
    lastHeard := 50400, lastRssi := some (-80), lastAntenna := some 1, deadline := 136800, estimated := 1
    battery := some 71, window := [570, 560, 505], fill := some 530, rate := 42, lastReading := some 50400
    hours := 122, due := some 489600, lastReported := some 530 }

theorem test_ESTIMATION_glass :
    (run .estimation (glassState glassBin 50400 830 false)).bin 412 = some glassBin1 ∧
    ((run .estimation (glassState glassBin 50400 830 false)).channel 1).queue.map (fun k => k.report.body) =
      [.fill (summaryOf {} 412 glassBin1)] := by
  decide +kernel

/-- The falling bottle: fill 545, rate 3,632, due 57,660, SOON, and one SOON offer. -/
def glassBin2 : BinRecord :=
  { glassBin1 with
    lastHeard := 50460, deadline := 136860, estimated := 2, window := [962, 570, 560], fill := some 545, rate := 3632
    lastReading := some 50460, hours := 2, due := some 57660, band := .soon }

theorem test_ESTIMATION_bottle :
    (run .estimation (glassState glassBin1 50460 300 false)).bin 412 = some glassBin2 ∧
    ((run .estimation (glassState glassBin1 50460 300 false)).channel 1).queue.map (fun k => k.report.body) =
      [.soon (summaryOf {} 412 glassBin2)] := by
  decide +kernel

/-- The emptying of the case: a collection from fill 557. -/
def emptiedBin : BinRecord :=
  { glassBin2 with
    window := [74], fill := some 74, rate := 0, rateValid := false, lastReading := some 100000, lastHeard := 100000
    deadline := 186400, estimated := 3, hours := 65535, due := none, band := .none, emptied := 1
    lastEmptied := some 100000, lastReported := some 74 }

theorem test_ESTIMATION_emptying :
    (run .estimation (glassState { glassBin2 with fill := some 557, band := .due, projected := true } 100000 1500
      false)).bin 412 = some emptiedBin ∧
    ((run .estimation (glassState { glassBin2 with fill := some 557, band := .due, projected := true } 100000 1500
      false)).channel 1).queue.map (fun k => k.report.body) =
      [.emptied (summaryOf {} 412 emptiedBin) 557 1] := by
  decide +kernel

/-- The blind echo with the lid open: one ALARM for LID, and only the flags move. -/
theorem test_ESTIMATION_blind :
    ((run .estimation (glassState emptiedBin 100060 0 true)).bin 412).map (fun r =>
      (r.fill, r.lastReading, r.deadline, r.conditions.lid, r.latches.lid)) =
      some (some 74, some 100000, 186460, true, true) ∧
    ((run .estimation (glassState emptiedBin 100060 0 true)).channel 1).queue.map (fun k => k.report.body.priority) =
      [.high] ∧
    (run .estimation (glassState emptiedBin 100060 0 true)).intake.counters.blind = 1 := by
  decide +kernel

theorem test_witness_ProfileGetReads :
    255 < 256 ∧ (15 : Nat) = (15 : Fin 16) ∧ 16 ≤ 16 ∧
    Executing (executing 0x09#8 (profileGetBody 15) State.reset) 0x09#8 (profileGetBody 15) ∧
    Executing (executing 0x09#8 (profileGetBody 16) State.reset) 0x09#8 (profileGetBody 16) :=
  ⟨by decide, rfl, by decide, executing_spec _ _ _ rfl, executing_spec _ _ _ rfl⟩

/-- PROFILE-SET of the glass profile: OK and stored; a record of it is marked since a depth changed. -/
theorem test_PROFILE_SET :
    (run .profileSet (executing 0x08#8 (profileSetBody 3 1 glass) (stateAt 0 [(0, glassBin)]))).profile 3 = glass ∧
    ((run .profileSet (executing 0x08#8 (profileSetBody 3 1 glass) (stateAt 0 [(0, glassBin)]))).bin 0).map
      BinRecord.rebasePending = some true ∧
    (run .profileSet (executing 0x08#8 (profileSetBody 3 1 glass) (stateAt 0 [(0, glassBin)]))).link.commands.map
      Command.condition = [.answered (.profile .ok 3 glass)] := by
  decide +kernel

theorem test_witness_ProfileSetStores :
    (∀ x ∈ [(3, 1), (16, 0), (0, 2)],
      Executing (executing 0x08#8 (profileSetBody x.1 x.2 glass) State.reset) 0x08#8 (profileSetBody x.1 x.2 glass)) ∧
    glass.emptyDepth < 65536 ∧ glass.fullDepth < 65536 ∧ glass.threshold < 65536 ∧ glass.fillWeight < 256 ∧
    glass.rateWeight < 256 ∧ glass.emptiedDrop < 65536 ∧ glass.reportStep < 65536 ∧ glass.silenceLimit < 65536 ∧
    (250 + 50 ≤ max 100 (min 4000 300) ∧ max 100 (min 4000 299) < 250 + 50) :=
  ⟨fun _ _ => executing_spec _ _ _ rfl, by decide⟩

theorem test_witness_EstimationFirstStages :
    (∃ t, (∀ last, glassBin.lastReading = some last → t = max (reading 412 50400 830 false false 71).arrival last) ∧
      (glassBin.lastReading = none → t = (reading 412 50400 830 false false 71).arrival)) ∧
    1 ≤ 1 ∧ glass.fullDepth < glass.emptyDepth ∧ 250 ≤ glass.fullDepth ∧ glass.emptyDepth ≤ 1600 ∧
    (glass.fullDepth ≤ 830 ∧ 830 ≤ glass.emptyDepth ∧ rawFill glass 830 = 570) :=
  ⟨⟨50400, by simp [glassBin, reading], by simp [glassBin]⟩, by decide⟩

theorem test_witness_EstimationOfJoinOrBlind :
    (withIntake [joined 412 0, joined 412 1] (stateAt 0 [(412, glassBin)])).intake.queue =
      joined 412 0 :: [joined 412 1] ∧
    (stateAt 0 [(412, glassBin)]).bin 412 = some glassBin ∧ glassBin.standing ≠ .barred ∧
    (joined 412 0).content = .join ∧
    (reading 412 100060 0 true false 71).content = .reading 0 true false 71 :=
  ⟨rfl, by decide, by decide, rfl, rfl⟩

theorem test_witness_EstimationOfReading :
    (glassState glassBin 50400 830 false).intake.queue = reading 412 50400 830 false false 71 :: [] ∧
    (glassState glassBin 50400 830 false).bin 412 = some glassBin ∧ (830 ≠ 0 ∧ 4095 ≠ 0) ∧
    -- first reading, rebase, collection at its limit, smoothing just beside it
    (fresh 1#32).fill = none ∧ { glassBin with rebasePending := true }.rebasePending = true ∧
    (glassBin.rebasePending = false ∧ 212 + glass.emptiedDrop ≤ 512 ∧ 512 < 213 + glass.emptiedDrop ∧
      glassBin.lastReading = some 28800) ∧
    -- stage 11
    ((fresh 1#32).lastReported = none ∧ (glass.reportStep : Int) ≤ |(525 : Int) - 505| ∧
      |(524 : Int) - 505| < (glass.reportStep : Int)) ∧
    project (some 530) false 42 true 850 50400 = (122, some 489600) ∧
    bandOf 122 (some 489600) 50400 43200 = (.later, false) :=
  ⟨rfl, by decide, by decide, rfl, rfl, by decide, by decide, by decide +kernel, by decide +kernel⟩

theorem test_witness_SmoothingArithmetic :
    16 ≤ 16 ∧ (0 : Int) ≤ ((560 : Nat) - (512 : Nat) : Int) * (6 : Nat) ∧ ((192 : Nat) - (3632 : Nat) : Int) * (4 : Nat) < 0 ∧
    blend 512 560 6 = 530 ∧ blend 3632 192 4 = 2772 ∧ blend 42 14400 4 = 3632 ∧
    rateSample 512 530 21600 = 48 ∧ rateSample 530 545 59 = 14400 ∧ rateSample 530 545 60 = 14400 ∧
    rateSample 545 74 3600 = 0 ∧ candidate true [570, 560, 505] = 560 := by
  decide +kernel

/-! ## Projection and the Urgency List -/

/-- The lines of the worked table of projections. -/
theorem test_projections :
    project (some 810) false 50 true 800 100000 = (0, some 100000) ∧
    project (some 300) true 50 true 800 100000 = (0, some 100000) ∧
    project (some 500) false 100 false 800 100000 = (65535, none) ∧
    project (some 500) false 0 true 800 100000 = (65535, none) ∧
    project (some 500) false 100 true 800 100000 = (48, some 272800) ∧
    project (some 799) false 16000 true 800 100000 = (1, some 103600) ∧
    project (some 0) false 1 true 1000 100000 = (16000, some 57700000) ∧
    bandOf 48 (some 272800) 100000 43200 = (.later, false) ∧ bandOf 1 (some 103600) 100000 43200 = (.soon, false) ∧
    bandOf 48 (some 272800) 280000 43200 = (.due, true) := by
  decide +kernel

theorem test_witness_ProjectionAndBand :
    (∃ f, some 800 = some f ∧ 800 ≤ f) ∧ (∀ f, some 799 = some f → f < 800) ∧
    (48 ≤ 65534 ∧ (800 - 500) * 16 ≤ 48 * 100 ∧ (48 - 1) * 100 < (800 - 500) * 16) ∧
    (200000 ≤ 200000 ∧ 200000 < 200001 ∧ 243200 ≤ 200000 + 43200 ∧ 200000 + 43200 < 243201) ∧
    (Band.soon ≠ .due ∧ (Band.later = .later ∨ Band.later = .none) ∧ (Band.none = .later ∨ Band.none = .none)) :=
  ⟨⟨800, rfl, le_refl _⟩, fun f h => by cases h; decide, by decide, by decide, by decide⟩

/-- The Urgency List of the worked walk, its records' profiles and districts as in the LIST case. -/
def route : SlotTable BinRecord :=
  [(2, listed 2#32 .later 290000), (7, listed 7#32 .later 250000), (9, listed 9#32 .soon 200000),
    (12, { listed 12#32 .later 243201 with profile := 3 }), (40, { listed 40#32 .due 150000 with profile := 3 }),
    (311, { listed 311#32 .later 243200 with district := 11 })]

/-- The route just after the seconds event that brings uptime to `u`, the horizon `h`, and channel 1 open. -/
def routeAt (u h : Nat) (bins : SlotTable BinRecord) : State :=
  (withChannel 1 (openChannel 9 []) ((stateAt u bins).setClock { uptime := u, walked := u - 1 })).setSoonHorizon h

theorem test_SECONDS_WALK :
    (run .secondsWalk (routeAt 200000 43200 route)).bins.map (fun p => (p.1, p.2.band, p.2.projected)) =
      [(2, .later, false), (7, .later, false), (9, .due, true), (12, .later, false), (40, .due, false),
        (311, .soon, false)] ∧
    ((run .secondsWalk (routeAt 200000 43200 route)).channel 1).queue.map Copy.ref = [.attached 9, .attached 311] ∧
    (run .secondsWalk (routeAt 200000 43200 route)).clock.walked = 200000 ∧
    (run .secondsWalk (routeAt 200002 86400 route)).bins.map (fun p => (p.1, p.2.band)) =
      [(2, .later), (7, .soon), (9, .due), (12, .soon), (40, .due), (311, .soon)] := by
  decide +kernel

theorem test_witness_OrderedListsAndWalk :
    tableWf route = true ∧ (routeAt 200000 43200 route).clock.walked < (routeAt 200000 43200 route).clock.uptime ∧
    200000 = (routeAt 200000 43200 route).clock.walked + 1 ∧
    (routeAt 200000 43200 route).urgencyList =
      [(150000, 40), (200000, 9), (243200, 311), (243201, 12), (250000, 7), (290000, 2)] := by
  decide +kernel

/-- The list after the walk at 200,002, with a LIST waiting. -/
def listing (maximum minimum : Nat) : State :=
  executing 0x0A#8 (listBody maximum 0x0004#16 0x00000010#32 minimum)
    (run .secondsWalk (routeAt 200002 86400 route))

/-- The identities a LIST reply lists. -/
def listedBy : Condition → List Identity
  | .answered (.listing _ _ _ l) => l.map ListEntry.identity
  | _ => []

/-- The status of a LIST reply and its more flag. -/
def listStatus : Condition → Option (Status × Bool)
  | .answered (.listing st _ more _) => some (st, more)
  | _ => none

/-- The replies of the worked LIST. -/
theorem test_LIST :
    (run .list (listing 2 2)).link.commands.map (fun e => listedBy e.condition) = [[9#32, 7#32]] ∧
    (run .list (listing 2 2)).link.commands.map (fun e => listStatus e.condition) = [some (.ok, false)] ∧
    (run .list (listing 1 2)).link.commands.map (fun e => listedBy e.condition) = [[9#32]] ∧
    (run .list (listing 1 2)).link.commands.map (fun e => listStatus e.condition) = [some (.ok, true)] ∧
    (run .list (listing 40 1)).link.commands.map (fun e => listedBy e.condition) = [[9#32, 7#32, 2#32]] ∧
    (run .list (listing 40 1)).link.commands.map (fun e => listStatus e.condition) = [some (.clamped, false)] := by
  decide +kernel

theorem test_witness_ListReturnsMatching :
    (∀ x ∈ [(0, 0), (1, 4), (2, 1), (32, 3), (33, 2), (255, 255)],
      Executing (listing x.1 x.2) 0x0A#8 (listBody x.1 0x0004#16 0x00000010#32 x.2)) ∧
    [0, 1, 2, 32, 33, 255].map (fun n => max 1 (min 32 n)) = [1, 1, 2, 32, 32, 32] :=
  ⟨fun _ _ => executing_spec _ _ _ (by decide +kernel), by decide⟩

/-! ## Silence deadlines and alarms -/

/-- The two bins that fall silent together at 543,200; slot 8's latch is still set. -/
def silentPair : SlotTable BinRecord :=
  [(8, { listed 0x0031A004#32 .none 0 with deadline := 543200, latches := { lapse := true } }),
    (20, { listed 0x0031C05A#32 .none 0 with deadline := 543200 }),
    (21, { fresh 3#32 with deadline := 548000 })]

/-- The pair at an uptime the Silence List has not taken. -/
def silenceAt (u : Nat) : State :=
  withChannel 1 (openChannel 9 []) ((stateAt u silentPair).setClock { uptime := u, checked := u - 1 })

theorem test_SILENCE_CHECK :
    (run .silenceCheck (silenceAt 543200)).bins.map (fun p => (p.1, p.2.standing, p.2.conditions.lapse,
      p.2.latches.lapse)) =
      [(8, .silent, true, true), (20, .silent, true, true), (21, .enrolled, false, false)] ∧
    ((run .silenceCheck (silenceAt 543200)).channel 1).queue.map Copy.ref = [.attached 20] ∧
    (run .silenceCheck (silenceAt 543200)).silenceList = [(548000, 21)] ∧
    ((run .silenceCheck (silenceAt 543199)).channel 1).queue = [] := by
  decide +kernel

theorem test_witness_SilenceCheckExpires :
    tableWf silentPair = true ∧ (silenceAt 543200).clock.checked < (silenceAt 543200).clock.uptime ∧
    543200 = (silenceAt 543200).clock.checked + 1 := by
  decide

/-- CLEAR-ALARMS naming LAPSE and LID with LAPSE present, then absent. -/
def clearing (conditions : AlarmSet) : State :=
  run .clearAlarms (executing 0x0B#8 (clearAlarmsBody 1#32 9)
    (stateAt 0 [(0, { fresh 1#32 with conditions := conditions, latches := { lid := true, lapse := true } })]))

theorem test_CLEAR_ALARMS :
    (clearing { lapse := true }).link.commands.map Command.condition =
      [.answered (.alarms .persisting 1#32 { lapse := true } { lapse := true })] ∧
    (clearing {}).link.commands.map Command.condition = [.answered (.alarms .ok 1#32 {} {})] ∧
    ((clearing {}).bin 0).map BinRecord.latches = some {} := by
  decide +kernel

theorem test_witness_ClearAlarmsClears :
    (∀ x ∈ [(0#32, 0), (0xFFFFFFFF#32, 0), (1#32, 16), (1#32, 255), (1#32, 15)],
      Executing (executing 0x0B#8 (clearAlarmsBody x.1 x.2) State.reset) 0x0B#8 (clearAlarmsBody x.1 x.2)) ∧
    State.reset.find 1#32 = none ∧ (stateAt 0 [(0, fresh 1#32)]).find 1#32 = some (0, fresh 1#32) :=
  ⟨fun _ _ => executing_spec _ _ _ rfl, rfl, by decide +kernel⟩

/-! ## The Stranger List -/

/-- A list of two strangers at an uptime the list has not taken. -/
def agingAt (u : Nat) : State :=
  withStrangers [stranger 1#32 0, stranger 2#32 1] ((stateAt u []).setClock { uptime := u, aged := u - 1 })

theorem test_STRANGER_AGING :
    (run .strangerAging (agingAt 86399)).strangers.entries.length = 2 ∧
    (run .strangerAging (agingAt 86400)).strangers.entries = [stranger 2#32 1] ∧
    (run .strangerAging (agingAt 86400)).clock.aged = 86400 := by
  decide +kernel

theorem test_witness_StrangerAgingRemoves :
    (agingAt 86400).clock.aged < (agingAt 86400).clock.uptime ∧ 86400 = (agingAt 86400).clock.aged + 1 ∧
    State.reset.clock.uptime ≤ State.reset.clock.walked ∧ State.reset.clock.uptime ≤ State.reset.clock.checked ∧
    State.reset.clock.uptime ≤ State.reset.clock.aged := by
  decide

theorem test_witness_DismissRemovesEntry :
    (∀ id ∈ [0#32, 0xFFFFFFFF#32, 1#32, 2#32, 3#32], ∀ s : State, s.link.restartPending = false →
      Executing (executing 0x0D#8 (identityBody id) s) 0x0D#8 (identityBody id)) ∧
    (∀ e ∈ (agingAt 5).strangers.entries, e.identity ≠ 3#32) ∧
    ((agingAt 5).strangers.entries = [] ++ stranger 1#32 0 :: [stranger 2#32 1] ∧
      ∀ x ∈ [stranger 2#32 1], x.identity ≠ 1#32) ∧
    ((agingAt 5).strangers.entries = [stranger 1#32 0] ++ stranger 2#32 1 :: [] ∧
      ∀ x ∈ [stranger 1#32 0], x.identity ≠ 2#32) :=
  ⟨fun _ _ _ h => executing_spec _ _ _ h, by decide, ⟨rfl, by decide⟩, rfl, by decide⟩

/-! ## Report Channels -/

theorem test_witness_ReportContents :
    ({ isSet := true, offset := 4294962306#32 } : Clock).isSet = true ∧ ({} : Clock).isSet = false ∧
    stamp { isSet := true, offset := 4294962306#32 } 1000 = 4294963306 ∧
    stamp { isSet := true, offset := 4294962306#32 } 5000 = 10 ∧
    stamp { isSet := true, offset := 4294962306#32 } 91400 = 86410 ∧ stamp {} 91400 = 91400 := by
  decide

/-- A FILL offer about slot 9 (LOW), an EMPTIED (NORMAL) and a DUE (HIGH); a STRANGER that concerns none. -/
def lowOffer : Offer := ⟨reportAt {} 0 (.fill (summaryOf {} 9 (fresh 9#32))), some 9⟩
def normalOffer : Offer := ⟨reportAt {} 0 (.emptied (summaryOf {} 9 (fresh 9#32)) 500 1), some 9⟩
def highOffer : Offer := ⟨reportAt {} 0 (.due (summaryOf {} 9 (fresh 9#32))), some 9⟩
def plainOffer : Offer := ⟨reportAt {} 0 (.stranger 1#32 false 0#4 (-80) 0 1), none⟩

/-- Channel 1 with a queue length and credit and the threshold 2, channel 2 filled so that so many pool slots are taken
(queues of any length stand in for several channels here). -/
def pool (queued credit others : Nat) : State :=
  withChannel 2 { (openChannel 0 (List.replicate others plainCopy)) with enabled := false }
    (withChannel 1 { (openChannel credit (List.replicate queued plainCopy)) with shedThreshold := 2 }
      (stateAt 0 [(9, { fresh 9#32 with owed := 2#8 })]))

/-- The places of R128 at their limits: 32 free, 48 in the queue, credit above the threshold; 8 free, 64 in the queue;
1 free. -/
theorem test_admission_limits :
    ((settle (pool 47 3 177) lowOffer).channel 1).queue.length = 48 ∧
    ((settle (pool 47 3 178) lowOffer).channel 1).counters.shedLow = 1 ∧
    ((settle (pool 48 3 0) lowOffer).channel 1).counters.shedLow = 1 ∧
    ((settle (pool 47 2 0) lowOffer).channel 1).counters.shedLow = 1 ∧
    ((settle (pool 63 0 185) normalOffer).channel 1).queue.length = 64 ∧
    ((settle (pool 63 0 186) normalOffer).channel 1).counters.shedNormal = 1 ∧
    ((settle (pool 63 0 192) highOffer).channel 1).queue.length = 64 ∧
    ((settle (pool 63 0 193) highOffer).channel 1).counters.shedHigh = 1 ∧
    ((settle (pool 64 0 0) highOffer).channel 1).counters.shedHigh = 1 := by
  decide +kernel

/-- A queued copy clears the owed bit of its channel, a shed one sets it. -/
theorem test_owed_bits :
    ((settle (pool 0 3 0) lowOffer).bin 9).map BinRecord.owed = some 0#8 ∧
    ((settle ((pool 0 0 0).setBins [(9, fresh 9#32)]) lowOffer).bin 9).map BinRecord.owed = some 2#8 := by
  decide +kernel

theorem test_witness_OfferSettledOnChannel :
    (∀ o ∈ [lowOffer, normalOffer, highOffer, plainOffer], ∃ kind, o.report.body.channelKind = some kind ∧
      ((pool 0 3 0).channel 1).kindMask.getLsbD kind.bit = true ∧
      ∀ b, o.report.body.summary = some b → ((pool 0 3 0).channel 1).profileMask.getLsbD b.profile = true ∧
        ((pool 0 3 0).channel 1).districtMask.getLsbD b.district = true) ∧
    ((pool 0 3 0).channel 1).enabled = true ∧ ((pool 0 3 0).channel 2).enabled = false ∧
    ((openChannel 0 []).kindMask.getLsbD 7 = false ∧ ({} : Channel).profileMask.getLsbD 2 = false) ∧
    lowOffer.report.body.priority = .low ∧ normalOffer.report.body.priority = .normal ∧
    highOffer.report.body.priority = .high ∧ lowOffer.concerns = some 9 ∧ plainOffer.concerns = none ∧
    plainOffer.report.body.priority = .normal ∧
    (32 ≤ 256 - (pool 47 3 177).queued ∧ 256 - (pool 47 3 178).queued < 32 ∧ 8 ≤ 256 - (pool 63 0 185).queued ∧
      256 - (pool 63 0 186).queued < 8 ∧ 1 ≤ 256 - (pool 63 0 192).queued ∧ 256 - (pool 63 0 193).queued < 1) := by
  refine ⟨fun o h => ?_, by decide +kernel⟩
  simp only [List.mem_cons, List.not_mem_nil, or_false] at h
  rcases h with rfl | rfl | rfl | rfl
  · exact ⟨.fill, rfl, by decide, fun b hb => by cases hb; decide⟩
  · exact ⟨.emptied, rfl, by decide, fun b hb => by cases hb; decide⟩
  · exact ⟨.due, rfl, by decide, fun b hb => by cases hb; decide⟩
  · exact ⟨.stranger, rfl, by decide, fun b hb => by cases hb⟩

/-- The worked disabling of channel 4: its oldest copy in transmission, a sweep on it. -/
def disabling : State :=
  executing 0x0E#8 (channelSetBody 4 0 0x7F#8 0#16 0#32 0)
    (((withChannel 4 (openChannel 6 [attachedCopy 12, attachedCopy 12, plainCopy, attachedCopy 30,
        { plainCopy with ref := .detached }])
      (stateAt 0 [(12, fresh 12#32), (30, fresh 30#32), (77, fresh 77#32)])).setSweep
        { state := .waiting, channel := 4 }))

/-- The same with the transmitter sending the channel's head copy. -/
def disablingSending : State := disabling.setLink { disabling.link with transmitter := .sending (.channel 4) [] }

theorem test_CHANNEL_SET_disabling :
    ((run .channelSet disablingSending).channel 4).queue = [attachedCopy 12] ∧
    ((run .channelSet disablingSending).channel 4).counters.flushed = 4 ∧
    ((run .channelSet disablingSending).channel 4).credit = 6 ∧
    (run .channelSet disablingSending).bins.map (fun p => (p.1, p.2.owed)) = [(12, 16#8), (30, 16#8), (77, 0#8)] ∧
    (run .channelSet disablingSending).sweep.state = .idle ∧
    (run .channelSet disablingSending).sweep.lastEnd = .channelOff := by
  decide +kernel

theorem test_witness_ChannelDisableFlushes :
    (0 < 256 ∧ (0x7F#8 : Byte).toNat < 128) ∧ (disablingSending.channel 4).enabled = true ∧
    Executing disablingSending 0x0E#8 (channelSetBody (4 : Fin 8) 0 0x7F#8 0#16 0#32 0) ∧
    (∃ flushed, (disablingSending.channel 4).queue = [attachedCopy 12] ++ flushed) ∧
    (∃ frame, disablingSending.link.transmitter = .sending (.channel 4) frame) ∧
    (¬∃ frame, disabling.link.transmitter = .sending (.channel 4) frame) ∧
    (disabling.channel 4).queue = [] ++ (disabling.channel 4).queue ∧
    (disablingSending.sweep.state ≠ .idle ∧ disablingSending.sweep.channel = 4) ∧
    State.reset.sweep.state = .idle :=
  ⟨by decide, rfl, by decide, ⟨_, rfl⟩, ⟨[], rfl⟩, (by rintro ⟨_, h⟩; cases h), rfl, by decide, rfl⟩

theorem test_witness_ChannelSetStores :
    (∀ x ∈ [(8, 0, 0x7F#8), (0, 2, 0x7F#8), (0, 0, 0x80#8), (7, 1, 0x7F#8), (0, 0, 0#8), (255, 255, 0xFF#8)],
      Executing (executing 0x0E#8 (channelSetBody x.1 x.2.1 x.2.2 0xFFFF#16 0#32 255) State.reset) 0x0E#8
        (channelSetBody x.1 x.2.1 x.2.2 0xFFFF#16 0#32 255)) ∧
    (7 = (7 : Fin 8).val ∧ (0x7F#8 : Byte).toNat < 128 ∧ 128 ≤ (0x80#8 : Byte).toNat) ∧
    (State.reset.channel 7).enabled = false ∧ ((withChannel 7 (openChannel 0 []) State.reset).channel 7).enabled = true :=
  ⟨fun _ _ => executing_spec _ _ _ rfl, by decide, rfl, rfl⟩

/-- CREDIT of 0 is taken as 1, and the sum saturates. -/
theorem test_CREDIT :
    ((run .credit (executing 0x0F#8 (creditBody 7 0) State.reset)).channel 7).credit = 1 ∧
    (run .credit (executing 0x0F#8 (creditBody 7 65535) (withChannel 7 (openChannel 1 []) State.reset))).link.commands.map
      Command.condition = [.answered (.credit .ok 7 65535)] := by
  decide +kernel

theorem test_witness_CreditAdds :
    (∀ x ∈ [(8, 0), (7, 0), (0, 65535)],
      Executing (executing 0x0F#8 (creditBody x.1 x.2) State.reset) 0x0F#8 (creditBody x.1 x.2)) ∧
    (7 = (7 : Fin 8).val ∧ 65535 < 65536) :=
  ⟨fun _ _ => executing_spec _ _ _ rfl, by decide⟩

/-- Channels 0, 2 and 5 with credits 1, 3 and 2, the rotation position 2, and no start notice waiting. -/
def rotation (mode : Arbitration) (position : Option (Fin 8)) : State :=
  let s := withChannel 0 (openChannel 1 [plainCopy]) (withChannel 2 (openChannel 3 [plainCopy])
    (withChannel 5 (openChannel 2 [plainCopy]) State.reset))
  (s.setReports { s.reports with arbitration := mode, rotation := position }).setLink { s.link with startNotice := none }

theorem test_TRANSMISSION_BEGIN_rotation :
    (run .transmissionBegin (rotation .rotate (some 2))).reports.rotation = some 5 ∧
    ((run .transmissionBegin (rotation .rotate (some 2))).channel 5).credit = 1 ∧
    (run .transmissionBegin (rotation .rotate (some 5))).reports.rotation = some 0 ∧
    (run .transmissionBegin (rotation .rotate (some 7))).reports.rotation = some 0 ∧
    (run .transmissionBegin (rotation .rotate none)).reports.rotation = some 0 ∧
    (run .transmissionBegin (rotation .ranked (some 2))).reports.rotation = some 0 := by
  decide +kernel

theorem test_witness_TransmissionBeginChooses :
    (State.reset.link.resetLow = false ∧ State.reset.link.transmitter = .idle ∧
      ∃ n, State.reset.link.startNotice = some n) ∧
    (∃ (s : State) (e : Command) (r : Reply), s.link.resetLow = false ∧ s.link.transmitter = .idle ∧
      s.link.startNotice = none ∧ e.condition = .answered r ∧
      s.link.commands = [] ++ e :: [⟨0x13#8, 2#8, [], .held⟩]) ∧
    ((rotation .rotate (some 2)).link.startNotice = none ∧ (rotation .rotate (some 2)).link.transmitter = .idle ∧
      (rotation .rotate (some 2)).link.resetLow = false ∧ (rotation .rotate (some 2)).link.commands = [] ∧
      ((rotation .rotate (some 2)).channel 5).enabled = true ∧ 1 ≤ ((rotation .rotate (some 2)).channel 5).credit ∧
      ((rotation .rotate (some 2)).channel 5).queue = plainCopy :: []) ∧
    (∀ d : Fin 8, (d.val + 7 - 2) % 8 < (5 + 7 - 2) % 8 → ((rotation .rotate (some 2)).channel d).enabled = false ∨
      ((rotation .rotate (some 2)).channel d).credit = 0 ∨ ((rotation .rotate (some 2)).channel d).queue = []) ∧
    (∀ d : Fin 8, d < 0 → ((rotation .ranked none).channel d).enabled = false) ∧
    (∀ d : Fin 8, (State.reset.channel d).enabled = false) ∧ ∀ held, Reply.badLength ≠ .unknownCommand held :=
  ⟨⟨rfl, rfl, _, rfl⟩,
    ⟨State.reset.setLink { State.reset.link with
      startNotice := none
      commands := [⟨0x13#8, 1#8, [], .answered .badLength⟩, ⟨0x13#8, 2#8, [], .held⟩] },
      ⟨0x13#8, 1#8, [], .answered .badLength⟩, .badLength, rfl, rfl, rfl, rfl, rfl⟩,
    by decide +kernel, by decide +kernel, by decide +kernel, by decide +kernel, fun _ h => by cases h⟩

/-- A state whose transmitter sends for a party, its Command Queue headed by a reply in transmission. -/
def sendingFor (p : Party) (r : Reply) : State :=
  (withChannel 7 (openChannel 0 [plainCopy]) State.reset).setLink
    { State.reset.link with
      startNotice := none
      transmitter := .sending p []
      commands := [⟨0x16#8, 1#8, [], .sending r⟩, ⟨0x13#8, 2#8, [], .held⟩] }

theorem test_witness_TransmissionCompletes :
    (sendingFor (.channel 7) .badLength).link.transmitter = .sending (.channel 7) [] ∧
    (sendingFor .startNotice .badLength).link.transmitter = .sending .startNotice [] ∧
    ((sendingFor .reply .badLength).link.transmitter = .sending .reply [] ∧
      (sendingFor .reply .badLength).link.commands = ⟨0x16#8, 1#8, [], .sending .badLength⟩ :: [⟨0x13#8, 2#8, [], .held⟩] ∧
      Reply.badLength ≠ .restart) ∧
    ∃ e rest, (sendingFor .reply .restart).link.commands = e :: rest ∧ e.condition = .sending .restart :=
  ⟨rfl, rfl, ⟨rfl, rfl, by decide⟩, _, _, rfl, rfl⟩

/-- The completion of a RESTART's reply: an engine reset of cause COMMAND. -/
theorem test_RESTART_completion :
    (run .transmissionCompletion (sendingFor .reply .restart)).link.lastReset = .command ∧
    (run .transmissionCompletion (sendingFor .reply .restart)).link.commands = [] ∧
    ((run .transmissionCompletion (sendingFor .reply .restart)).channel 7).queue = [] ∧
    (run .transmissionCompletion (sendingFor .reply .restart)).link.startNotice =
      some { cause := .command, occupied := 0, isSet := false } := by
  decide +kernel

/-! ## Sweeps -/

theorem test_witness_SweepStarts :
    (∀ x ∈ [(8, 0, 0#8), (0, 3, 0#8), (0, 2, 0#8), (0, 2, 4#8), (0, 0, 255#8), (7, 1, 9#8), (7, 2, 1#8), (7, 2, 3#8)],
      Executing (executing 0x10#8 (sweepBody x.1 x.2.1 x.2.2 4#16 16#32) State.reset) 0x10#8
        (sweepBody x.1 x.2.1 x.2.2 4#16 16#32)) ∧
    (State.reset.sweep.state = .idle ∧ (State.reset.setSweep { state := .closing }).sweep.state ≠ .idle) ∧
    (State.reset.channel 7).enabled = false ∧ ((withChannel 7 (openChannel 0 []) State.reset).channel 7).enabled = true :=
  ⟨fun _ _ => executing_spec _ _ _ rfl, by decide, rfl, rfl⟩

/-- A sweep of channel 2 in some state, with so many copies on the channel and so many other pool slots taken. -/
def sweeping (sw : Sweep) (queued others : Nat) : State :=
  (withChannel 6 { (openChannel 0 (List.replicate others plainCopy)) with enabled := false }
    (withChannel 2 (openChannel 0 (List.replicate queued plainCopy))
      (stateAt 0 [(3, { fresh 3#32 with owed := 4#8 }), (5, { fresh 5#32 with district := 7, owed := 4#8 }),
        (4095, fresh 6#32)]))).setSweep { sw with channel := 2, profileMask := 4#16, districtMask := 16#32 }

theorem test_SWEEP_END_PLACEMENT :
    (run .sweepEndPlacement (sweeping { state := .closing, pendingEnd := .aborted, visited := 9, emitted := 2 } 63
      185)).sweep.state = .idle ∧
    ((run .sweepEndPlacement (sweeping { state := .closing, pendingEnd := .aborted, visited := 9, emitted := 2 } 0
      0)).channel 2).queue.map (fun k => k.report.body) = [.sweepEnd .aborted 2 9 2] ∧
    (run .sweepEndPlacement (sweeping { state := .closing } 63 186)).sweep.state = .closing ∧
    (run .sweepEndPlacement (sweeping { state := .closing } 64 0)).sweep.state = .closing := by
  decide +kernel

theorem test_witness_SweepCloses :
    (∀ st ∈ [SweepState.idle, .running, .waiting, .closing],
      (sweeping { state := st } 63 185).sweep.state = st ∧
      Executing (executing 0x11#8 [] (sweeping { state := st } 63 185)) 0x11#8 []) ∧
    (8 ≤ 256 - (sweeping {} 63 185).queued ∧ ((sweeping {} 63 185).channel 2).queue.length < 64) ∧
    256 - (sweeping {} 63 186).queued < 8 ∧ 64 ≤ ((sweeping {} 64 0).channel 2).queue.length ∧
    2 = (sweeping {} 63 185).sweep.channel := by
  decide +kernel

/-- A SWEEP-ABORT of a running sweep with room: closed and its SWEEP_END placed in one event. -/
theorem test_SWEEP_ABORT :
    (run .sweepAbort (executing 0x11#8 [] (sweeping { state := .running, cursor := 9, visited := 9 } 0 0))).sweep.lastEnd =
      .aborted ∧
    (run .sweepAbort (executing 0x11#8 [] (sweeping { state := .running, cursor := 9, visited := 9 } 0
      0))).link.commands.map Command.condition = [.answered (.sweep .ok .idle 9)] ∧
    (run .sweepAbort (executing 0x11#8 [] State.reset)).link.commands.map Command.condition =
      [.answered (.sweep .notRunning .idle 0)] := by
  decide +kernel

/-- Visits of the worked sweep: a match with room, a match without, a district outside the mask, and the last slot. -/
theorem test_SWEEP_VISIT :
    (run .sweepVisit (sweeping { state := .running, selection := .owed, cursor := 3 } 10 0)).sweep.emitted = 1 ∧
    ((run .sweepVisit (sweeping { state := .running, selection := .owed, cursor := 3 } 10 0)).bin 3).map
      BinRecord.owed = some 0#8 ∧
    (run .sweepVisit (sweeping { state := .running, selection := .owed, cursor := 3 } 63 186)).sweep.state = .waiting ∧
    (run .sweepVisit (sweeping { state := .running, selection := .owed, cursor := 5 } 10 0)).sweep.cursor = 6 ∧
    (run .sweepVisit (sweeping { state := .running, selection := .all, cursor := 4095, visited := 4095 } 10
      0)).sweep.state = .idle ∧
    ((run .sweepVisit (sweeping { state := .running, selection := .all, cursor := 4095, visited := 4095 } 10
      0)).channel 2).queue.length = 12 := by
  decide +kernel

theorem test_witness_SweepVisitsSlot :
    (sweeping { state := .running, cursor := 3 } 63 185).sweep.state = .running ∧
    (∃ r, (sweeping { state := .running, cursor := 3 } 63 185).bin 3 = some r ∧ (4#16).getLsbD r.profile = true ∧
      (16#32).getLsbD r.district = true ∧ r.owed.getLsbD 2 = true) ∧
    (∃ r, (sweeping { state := .running, cursor := 5 } 63 185).bin 5 = some r ∧ (16#32).getLsbD r.district = false) ∧
    (sweeping { state := .running, cursor := 4 } 63 185).bin 4 = none ∧
    (sweeping { state := .running, cursor := 4095 } 63 185).sweep.cursor = 4095 ∧
    (∃ r, (sweeping { state := .running, cursor := 4095 } 63 185).bin 4095 = some r) ∧
    ((listed 1#32 .due 0).band = .due ∧ (3#8 : Byte).toNat ≤ 3 ∧ (2#8 : Byte).toNat ≤ 2 ∧ (1#8 : Byte).toNat ≤ 1) ∧
    (8 ≤ 256 - (sweeping {} 63 185).queued ∧ 256 - (sweeping {} 63 186).queued < 8) :=
  ⟨rfl, ⟨_, rfl, by decide⟩, ⟨_, rfl, by decide⟩, rfl, rfl, ⟨_, rfl⟩, by decide, by decide +kernel⟩

/-! ## The Street Clock and the Planner Link -/

/-- SET-TIME of the worked case: street time 10 at uptime 5,000. -/
theorem test_SET_TIME :
    (run .setTime (executing 0x12#8 (setTimeBody 10) (stateAt 5000 []))).clock.offset = 4294962306#32 ∧
    (run .setTime (executing 0x12#8 (setTimeBody 10) (stateAt 5000 []))).clock.isSet = true ∧
    (run .setTime (executing 0x12#8 (setTimeBody 10) (stateAt 5000 []))).link.commands.map Command.condition =
      [.answered (.time 4294962306#32 5000 10)] := by
  decide +kernel

theorem test_witness_SetTimeStores :
    (4294967295 < 4294967296 ∧ (stateAt 5000 []).clock.uptime < 4294967296) ∧
    Executing (executing 0x12#8 (setTimeBody 4294967295) (stateAt 5000 [])) 0x12#8 (setTimeBody 4294967295) ∧
    ([0#8, 0#8, 0#8] : List Byte).length ≠ 4 ∧
    Executing (executing 0x12#8 [0#8, 0#8, 0#8] State.reset) 0x12#8 [0#8, 0#8, 0#8] :=
  ⟨by decide, executing_spec _ _ _ rfl, by decide, executing_spec _ _ _ rfl⟩

/-- CONFIG brings every quantity to its range and answers CLAMPED. -/
theorem test_CONFIG :
    (run .config (executing 0x14#8 (configBody 0 255 3599 604801 1) State.reset)).link.commands.map Command.condition =
      [.answered (.config .clamped
        { holdThreshold := 1, captureLimit := 64, soonHorizon := 3600, strangerAge := 604800, arbitration := .ranked })] ∧
    (run .config (executing 0x14#8 (configBody 64 10 259200 600 0) State.reset)).soonHorizon = 259200 := by
  decide +kernel

theorem test_witness_ConfigStores :
    (255 < 256 ∧ 4294967295 < 4294967296 ∧ 2 ≤ 2 ∧ 1 < 2) ∧
    ∀ mode ∈ [0, 1, 2, 255], Executing (executing 0x14#8 (configBody 255 0 4294967295 0 mode) State.reset) 0x14#8
      (configBody 255 0 4294967295 0 mode) :=
  ⟨by decide, fun _ _ => executing_spec _ _ _ rfl⟩

/-- COUNTERS with YES returns 65 values and clears them. -/
theorem test_COUNTERS :
    ((run .counters (executing 0x15#8 (countersBody 1) (pressed .field .answered 48).1)).intake.counters = {}) ∧
    ((pressed .field .answered 48).1.intake.counters = { held := 1 }) := by
  decide +kernel

theorem test_witness_CountersReadAndCleared :
    255 < 256 ∧ ∀ flag ∈ [0, 1, 2, 255],
      Executing (executing 0x15#8 (countersBody flag) State.reset) 0x15#8 (countersBody flag) :=
  ⟨by decide, fun _ _ => executing_spec _ _ _ rfl⟩

/-- The state after reset with a restart pending. -/
def restarting : State := State.reset.setLink { State.reset.link with restartPending := true }

theorem test_witness_OldestHeldAnswered :
    (∃ before after : List Command, ∃ e : Command,
      [⟨0x0F#8, 1#8, [], .answered .badLength⟩, ⟨0x13#8, 2#8, [], .held⟩, ⟨0x13#8, 3#8, [], .held⟩] =
        before ++ e :: after ∧ e.condition = .held ∧ ∀ x ∈ before, x.condition ≠ .held) ∧
    (∀ type ∈ [0x00#8, 0x17#8, 0xFF#8], Executing (executing type [] State.reset) type [] ∧
      (type.toNat = 0 ∨ 0x16 < type.toNat)) ∧
    Executing (executing 0x16#8 [] State.reset) 0x16#8 [] ∧
    (Executing (executing 0x01#8 [0#8] State.reset) 0x01#8 [0#8] ∧ ([0#8] : List Byte).length ∉ [7]) ∧
    (Executing (executing 0x07#8 [0#8, 0#8, 0#8] State.reset) 0x07#8 [0#8, 0#8, 0#8] ∧
      3 ∉ (List.range 595).map (· + 4) ∧ 4 ∈ (List.range 595).map (· + 4) ∧ 598 ∈ (List.range 595).map (· + 4)) ∧
    (∃ s : State, s.link.restartPending = true ∧ s.oldestHeld ≠ none) ∧
    ∀ type ∈ [0x0C#8, 0x11#8, 0x13#8, 0x16#8], Executing (executing type [0#8] State.reset) type [0#8] := by
  refine ⟨⟨[⟨0x0F#8, 1#8, [], .answered .badLength⟩], [⟨0x13#8, 3#8, [], .held⟩], ⟨0x13#8, 2#8, [], .held⟩, rfl, rfl,
    by decide⟩, by decide, executing_spec _ _ _ rfl, ⟨executing_spec _ _ _ rfl, by decide⟩,
    ⟨executing_spec _ _ _ rfl, ?_, ?_, ?_⟩, ⟨executing 0x13#8 [] restarting, by decide⟩,
    fun _ _ => executing_spec _ _ _ rfl⟩
  · simp
  · exact List.mem_map.mpr ⟨0, List.mem_range.mpr (by decide), rfl⟩
  · exact List.mem_map.mpr ⟨594, List.mem_range.mpr (by decide), rfl⟩

/-! ## Messages -/

/-- The glass bin's QUERY reply: 69 bytes, the unset flag set, its summary and window as the case gives them. -/
theorem test_QUERY_reply :
    ((Reply.record true (summaryOf {} 412 glassBin1) (detailOf {} glassBin1) glassBin1.window).frame 0x06#8 7#8).length =
      7 + 69 ∧
    (summaryOf {} 412 glassBin1).bytes =
      [0x00#8, 0xB3#8, 0x20#8, 0x7E#8, 0x01#8, 0x9C#8, 3#8, 4#8, 1#8, 1#8, 3#8, 0x02#8, 0x12#8, 0x00#8, 0x7A#8,
        0x00#8, 0x07#8, 0x78#8, 0x80#8, 0#8] ∧
    (detailOf {} glassBin1).bytes.length = 40 ∧ (detailOf {} glassBin1).bytes.take 5 = [1#8, 0xFF#8, 0x75#8, 0#8, 42#8] := by
  decide +kernel

/-- The FILL frame of the case: type 0x40, tag 1, a body of 25 bytes that opens with the unset flag and 50,400. -/
theorem test_FILL_frame :
    (reportAt {} 50400 (.fill (summaryOf {} 412 glassBin1))).bytes.length = 25 ∧
    ((reportAt {} 50400 (.fill (summaryOf {} 412 glassBin1))).frame 1).take 10 =
      [0xC3#8, 0#8, 27#8, 0x40#8, 1#8, 1#8, 0#8, 0#8, 0xC4#8, 0xE0#8] := by
  decide +kernel

/-! ## Resets -/

theorem test_witness_EngineResetKeepsRetained :
    (∃ bins, bins = (pool 0 0 0).bins) ∧ ResetCause.line = .line :=
  ⟨⟨_, rfl⟩, rfl⟩

/-- An engine reset sets the owed bit of the copies it discards and keeps the records. -/
theorem test_RESET_N_ASSERTION :
    ((run .resetNAssertion disabling).bins.map (fun p => (p.1, p.2.owed)) = [(12, 16#8), (30, 16#8), (77, 0#8)]) ∧
    (run .resetNAssertion disabling).sweep.lastEnd = .reset ∧ (run .resetNAssertion disabling).link.resetLow = true ∧
    (run .resetNRelease (run .resetNAssertion disabling)).link.resetLow = false ∧
    (run .resetNAssertion disabling).reports.channels = State.reset.reports.channels := by
  decide +kernel

theorem test_POWER_ON_RESET : run .powerOnReset disabling = State.reset := by
  decide +kernel

/-! ## Laws -/

/-- A state other than reset's that meets every law, with commands waiting that then move it. -/
def lawful : State := (busyBin (listed 1#32 .soon 10800)).setPending [.estimation, .powerOnReset]

theorem test_witness_QueueLawKept : QueueLaw lawful :=
  ⟨by decide, by decide, by decide, by decide, by decide +kernel, by decide +kernel, by decide +kernel,
    by decide +kernel, by decide⟩

theorem test_witness_IdentityLawKept : IdentityLaw lawful := by
  refine ⟨by decide, by decide +kernel, by decide +kernel, by decide, by decide, by decide, fun e h => ?_⟩
  simp only [lawful, busyBin, withChannel, withIntake, State.setPending_intake] at h
  have : e.slot = 5 ∨ e.slot = 6 := by
    change e ∈ [joined 5 0, joined 6 0, joined 5 1] at h
    simp only [List.mem_cons, List.not_mem_nil, or_false] at h
    rcases h with rfl | rfl | rfl <;> simp [joined]
  rcases this with h5 | h6
  · rw [h5]; exact ⟨listed 1#32 .soon 10800, rfl, by decide⟩
  · rw [h6]; exact ⟨fresh 2#32, rfl, by decide⟩

theorem test_witness_EstimateLawKept : EstimateLaw lawful := by
  refine ⟨fun i => ?_, fun p h => ?_⟩
  · have : lawful.profile i = {} := by
      revert i; decide
    rw [this]
    exact ⟨by decide, by decide, by decide, by decide, by decide, by decide, by decide, by decide⟩
  · change p ∈ [(5, listed 1#32 .soon 10800), (6, fresh 2#32)] at h
    simp only [List.mem_cons, List.not_mem_nil, or_false] at h
    rcases h with rfl | rfl
    all_goals
      refine ⟨fun f hf => ?_, by decide, by decide, by decide, by decide, by decide, by decide, by decide, by decide,
        by decide, by decide, fun a => ?_⟩
    · cases hf; decide
    · cases a <;> decide
    · cases hf
    · cases a <;> decide

theorem test_witness_UptimeNeverDecreases :
    ClockLaw lawful ∧ lawful.pending.head? ≠ some .powerOnReset ∧ ∃ t, step lawful = .next t :=
  ⟨⟨by decide, by decide, by decide, by decide, by decide⟩, by decide, _, rfl⟩

/-- A begin spends one credit; a reset takes it to 0, the RESTART's own among them. -/
theorem test_witness_CreditSpentAtBeginOnly :
    ((run .transmissionBegin (rotation .ranked none)).channel 0).credit < ((rotation .ranked none).channel 0).credit ∧
    ((run .resetNAssertion (rotation .ranked none)).channel 0).credit < ((rotation .ranked none).channel 0).credit ∧
    ((run .powerOnReset (rotation .ranked none)).channel 0).credit < ((rotation .ranked none).channel 0).credit ∧
    ((run .transmissionCompletion (withChannel 7 (openChannel 3 []) (sendingFor .reply .restart))).channel 7).credit <
      ((withChannel 7 (openChannel 3 []) (sendingFor .reply .restart)).channel 7).credit ∧
    ((rotation .ranked none).channel 0).credit ≤ 65535 := by
  decide +kernel

end Sys2Proof.Tests
end

section
/-! PROOFS. The Bin Table's commands (01_the_bin_table.md): the fields of their bodies as the part reads them, their
refusals in the manual's order, and what each accepted command does. -/

namespace Sys2Proof.Machine

/-! ## Operands -/

theorem validIdentity_iff (i : Identity) : validIdentity i = true ↔ i ≠ 0#32 ∧ i ≠ 0xFFFFFFFF#32 := by
  simp [validIdentity]

theorem validIdentity_eq_false_iff (i : Identity) : validIdentity i = false ↔ i = 0#32 ∨ i = 0xFFFFFFFF#32 := by
  rw [← Bool.not_eq_true, validIdentity_iff, not_and_or, not_not, not_not]

@[simp] theorem index16_val (i : Fin 16) : index16 i.val = some i := by
  simp [index16]

theorem index16_eq_none {n : Nat} (h : 16 ≤ n) : index16 n = none := if_neg (by omega)

@[simp] theorem index32_val (i : Fin 32) : index32 i.val = some i := by
  simp [index32]

theorem index32_of_lt {n : Nat} (h : n < 32) : index32 n = some (Fin.ofNat 32 n) := if_pos h

theorem index32_eq_none {n : Nat} (h : 32 ≤ n) : index32 n = none := if_neg (by omega)

@[simp] theorem readAckMode_code (m : AckMode) : readAckMode m.code = some m := by
  cases m <;> rfl

theorem readAckMode_of_lt {n : Nat} (h : n < 2) :
    readAckMode n = some (if n = 1 then .answered else .unanswered) := by
  obtain rfl | rfl : n = 0 ∨ n = 1 := by omega
  · rfl
  · rfl

theorem readAckMode_eq_none {n : Nat} (h : 2 ≤ n) : readAckMode n = none := by
  obtain ⟨k, rfl⟩ := Nat.exists_eq_add_of_le' h
  rfl

/-- The fields of an ENROL body as the part reads them (R182). -/
theorem enrolBody_fields (id : Identity) {profile district ackMode : Nat} (hp : profile < 256) (hd : district < 256)
    (hm : ackMode < 256) :
    identityAt (enrolBody id profile district ackMode) 0 = id ∧
      byteAt (enrolBody id profile district ackMode) 4 = profile ∧
      byteAt (enrolBody id profile district ackMode) 5 = district ∧
      byteAt (enrolBody id profile district ackMode) 6 = ackMode :=
  ⟨identityAt_be32 id _, byteOf_toNat_of_lt hp, byteOf_toNat_of_lt hd, byteOf_toNat_of_lt hm⟩

theorem identityAt_amendBody (id : Identity) (profile district ackMode : Option Nat) :
    identityAt (amendBody id profile district ackMode) 0 = id := identityAt_be32 id _

theorem presenceByte_bits (profile district ackMode : Bool) :
    (presenceByte profile district ackMode).getLsbD 0 = profile ∧
      (presenceByte profile district ackMode).getLsbD 1 = district ∧
      (presenceByte profile district ackMode).getLsbD 2 = ackMode := by
  revert profile district ackMode
  decide

/-- An optional field as AMEND reads it: absent it leaves the stored value, present it is read by its encoding (R17). -/
def readOptional {α : Type} (read : Nat → Option α) : Option Nat → Option (Option α)
  | none => some none
  | some n => (read n).map some

theorem optionalField_byteOf {α : Type} (read : Nat → Option α) {present : Bool} {field : Option Nat}
    (hp : present = field.isSome) (h : ∀ n ∈ field, n < 256) :
    optionalField present (read (byteOf (field.getD 0)).toNat) = readOptional read field := by
  subst hp
  cases field with
  | none => rfl
  | some n => simp [optionalField, readOptional, byteOf_toNat_of_lt (h n rfl)]

/-- The three optional fields of an AMEND body as the part reads them (R17, R182). -/
theorem amendBody_fields (id : Identity) {profile district ackMode : Option Nat} (hp : ∀ n ∈ profile, n < 256)
    (hd : ∀ n ∈ district, n < 256) (hm : ∀ n ∈ ackMode, n < 256) :
    optionalField (((amendBody id profile district ackMode).getD 4 0).getLsbD 0)
        (index16 (byteAt (amendBody id profile district ackMode) 5)) = readOptional index16 profile ∧
      optionalField (((amendBody id profile district ackMode).getD 4 0).getLsbD 1)
        (index32 (byteAt (amendBody id profile district ackMode) 6)) = readOptional index32 district ∧
      optionalField (((amendBody id profile district ackMode).getD 4 0).getLsbD 2)
        (readAckMode (byteAt (amendBody id profile district ackMode) 7)) = readOptional readAckMode ackMode := by
  obtain ⟨b0, b1, b2⟩ := presenceByte_bits profile.isSome district.isSome ackMode.isSome
  exact ⟨optionalField_byteOf index16 b0 hp, optionalField_byteOf index32 b1 hd,
    optionalField_byteOf readAckMode b2 hm⟩

theorem readOptional_eq_none {α : Type} {read : Nat → Option α} {field : Option Nat} {n : Nat} (h : n ∈ field)
    (hr : read n = none) : readOptional read field = none := by
  cases h
  simp [readOptional, hr]

theorem readOptional_eq_some {α : Type} {read : Nat → Option α} {field : Option Nat} {f : Nat → α}
    (h : ∀ n ∈ field, read n = some (f n)) : readOptional read field = some (field.map f) := by
  cases field with
  | none => rfl
  | some n => simp [readOptional, h n rfl]

/-! ## The execution of a command on a record -/

theorem carryOut_acts {s : State} {type : Byte} {body : List Byte} {lengthOk : Nat → Bool}
    {act : List Byte → State → State × Reply} (h : Executing s type body) (hl : lengthOk body.length = true) :
    carryOut type lengthOk act s = (act body s).1.answerHeld (act body s).2 := by
  rw [carryOut_executing h, if_pos hl]

/-- A command whose act leaves the state, refused or only reading, changes nothing but its own entry (R13). -/
theorem carryOut_answers {s : State} {type : Byte} {body : List Byte} {lengthOk : Nat → Bool}
    {act : List Byte → State → State × Reply} {reply : Reply} (h : Executing s type body)
    (hl : lengthOk body.length = true) (ha : act body s = (s, reply)) :
    carryOut type lengthOk act s = s.answerHeld reply := by
  rw [carryOut_acts h hl, ha]

/-- The identity refusals of the commands on a record: RANGE, then NO_SUCH_BIN (R13). -/
theorem onRecord_refuses {s : State} {body : List Byte} {id : Identity} {st : Status}
    (act : Nat → BinRecord → State × Reply) (hb : identityAt body 0 = id)
    (h : (id = 0#32 ∨ id = 0xFFFFFFFF#32) ∧ st = .range ∨
      id ≠ 0#32 ∧ id ≠ 0xFFFFFFFF#32 ∧ s.find id = none ∧ st = .noSuchBin) :
    onRecord body s act = (s, .refusedIdentity st id) := by
  subst hb
  obtain ⟨hi, rfl⟩ | ⟨h0, h1, hf, rfl⟩ := h
  · simp [onRecord, (validIdentity_eq_false_iff _).mpr hi]
  · simp [onRecord, (validIdentity_iff _).mpr ⟨h0, h1⟩, hf]

theorem onRecord_found {s : State} {body : List Byte} {id : Identity} {slot : Nat} {r : BinRecord}
    (act : Nat → BinRecord → State × Reply) (hb : identityAt body 0 = id) (h0 : id ≠ 0#32)
    (h1 : id ≠ 0xFFFFFFFF#32) (hf : s.find id = some (slot, r)) : onRecord body s act = act slot r := by
  subst hb
  simp [onRecord, (validIdentity_iff _).mpr ⟨h0, h1⟩, hf]

/-! ## ENROL -/

/-- ENROL takes the lowest vacant slot (R3). -/
theorem lowestVacant_eq_some {s : State} {slot : Nat} (hs : slot < 4096) (hv : s.bin slot = none)
    (ho : ∀ n, n < slot → s.bin n ≠ none) : s.lowestVacant = some slot := by
  cases h : s.lowestVacant with
  | none => exact absurd hv (lowestVacantFrom_none h slot (Nat.zero_le _) (by simpa [Config.slots] using hs))
  | some n =>
    obtain ⟨-, -, hn, hlow⟩ := lowestVacantFrom_some h
    obtain hlt | rfl | hgt := Nat.lt_trichotomy n slot
    · exact absurd hn (ho n hlt)
    · rfl
    · exact absurd hv (hlow slot (Nat.zero_le _) hgt)

theorem lowestVacant_eq_none {s : State} (h : ∀ n, n < 4096 → s.bin n ≠ none) : s.lowestVacant = none := by
  cases hv : s.lowestVacant with
  | none => rfl
  | some n =>
    obtain ⟨-, hn, hnone, -⟩ := lowestVacantFrom_some hv
    exact absurd hnone (h n (by simpa [Config.slots] using hn))

theorem enrolAct_range {s : State} {body : List Byte}
    (h : validIdentity (identityAt body 0) = false ∨ index16 (byteAt body 4) = none ∨
      index32 (byteAt body 5) = none ∨ readAckMode (byteAt body 6) = none) :
    enrolAct body s = (s, .refusedIdentity .range (identityAt body 0)) := by
  unfold enrolAct
  simp only
  split
  · rfl
  · split
    · simp_all
    · rfl

section

variable {s : State} {body : List Byte} {profile : Fin 16} {district : Fin 32} {ackMode : AckMode}
  (hv : validIdentity (identityAt body 0) = true) (hp : index16 (byteAt body 4) = some profile)
  (hd : index32 (byteAt body 5) = some district) (hm : readAckMode (byteAt body 6) = some ackMode)

include hv hp hd hm

theorem enrolAct_exists (hf : s.find (identityAt body 0) ≠ none) :
    enrolAct body s = (s, .refusedIdentity .alreadyExists (identityAt body 0)) := by
  simp [enrolAct, hv, hp, hd, hm, Option.isSome_iff_ne_none.mpr hf]

theorem enrolAct_full (hf : s.find (identityAt body 0) = none) (hl : s.lowestVacant = none) :
    enrolAct body s = (s, .refusedIdentity .tableFull (identityAt body 0)) := by
  simp [enrolAct, hv, hp, hd, hm, hf, hl]

theorem enrolAct_enrols {slot : Nat} (hf : s.find (identityAt body 0) = none) (hl : s.lowestVacant = some slot) :
    enrolAct body s = (enrolInto slot (identityAt body 0) profile district ackMode s, .enrolled slot) := by
  simp [enrolAct, hv, hp, hd, hm, hf, hl]

end

/-- Settles O17: the body reads back as its fields, so this is an accepted ENROL into the lowest vacant slot. -/
theorem enrolCreatesRecord : Obligations.EnrolCreatesRecord := by
  intro s id profile district ackMode slot hx h0 h1 hf hs hv ho
  have hm : ackMode.code < 256 := by cases ackMode <;> decide
  obtain ⟨hid, hp, hd, ha⟩ := enrolBody_fields id (by omega : profile.val < 256) (by omega : district.val < 256) hm
  have act := enrolAct_enrols (s := s) (body := enrolBody id profile district ackMode.code)
    (by rw [hid]; exact (validIdentity_iff id).mpr ⟨h0, h1⟩) (by rw [hp, index16_val]) (by rw [hd, index32_val])
    (by rw [ha, readAckMode_code]) (by rw [hid, hf]) (lowestVacant_eq_some hs hv ho)
  rw [hid] at act
  exact congrArg Host.Outcome.next ((carryOut_acts hx rfl).trans (by rw [act]; rfl))

/-! ## AMEND -/

section

variable {s : State} {id : Identity} {profile district ackMode : Option Nat} {slot : Nat} {r : BinRecord}
  (h0 : id ≠ 0#32) (h1 : id ≠ 0xFFFFFFFF#32) (hf : s.find id = some (slot, r))
  (hp : ∀ n ∈ profile, n < 256) (hd : ∀ n ∈ district, n < 256) (hm : ∀ n ∈ ackMode, n < 256)

include h0 h1 hf hp hd hm

/-- A present field of AMEND outside its encoding refuses the command (R17). -/
theorem amendAct_range
    (h : readOptional index16 profile = none ∨ readOptional index32 district = none ∨
      readOptional readAckMode ackMode = none) :
    amendAct (amendBody id profile district ackMode) s = (s, .refusedIdentity .range id) := by
  obtain ⟨e0, e1, e2⟩ := amendBody_fields id hp hd hm
  rw [amendAct, onRecord_found _ (identityAt_amendBody ..) h0 h1 hf, (State.mem_of_find hf).2]
  simp only [e0, e1, e2]
  split
  · simp_all
  · rfl

theorem amendAct_amends {p : Option (Fin 16)} {d : Option (Fin 32)} {m : Option AckMode}
    (ep : readOptional index16 profile = some p) (ed : readOptional index32 district = some d)
    (em : readOptional readAckMode ackMode = some m) :
    amendAct (amendBody id profile district ackMode) s = (replaceRecord slot (amendRecord s p d m r) s, .done id) := by
  obtain ⟨e0, e1, e2⟩ := amendBody_fields id hp hd hm
  rw [amendAct, onRecord_found _ (identityAt_amendBody ..) h0 h1 hf, (State.mem_of_find hf).2]
  simp only [e0, e1, e2, ep, ed, em]

end

/-- The ack mode a byte below 2 names (R179). -/
theorem readOptional_ackMode {ackMode : Option Nat} (h : ∀ n ∈ ackMode, n < 2) :
    readOptional readAckMode ackMode = some (ackMode.map fun n => if n = 1 then .answered else .unanswered) :=
  readOptional_eq_some fun n hn => readAckMode_of_lt (h n hn)

theorem readOptional_district {district : Option Nat} (h : ∀ n ∈ district, n < 32) :
    readOptional index32 district = some (district.map (Fin.ofNat 32)) :=
  readOptional_eq_some fun n hn => index32_of_lt (h n hn)

/-- AMEND with no other profile stores the fields that are present and raises nothing (R17). -/
theorem amendRecord_profile_stays (s : State) {profile : Option (Fin 16)} (district : Option (Fin 32))
    (ackMode : Option AckMode) {r : BinRecord} (h : ∀ p ∈ profile, p = r.profile) :
    amendRecord s profile district ackMode r =
      ({ r with district := district.getD r.district, ackMode := ackMode.getD r.ackMode }, []) := by
  cases profile with
  | none => rfl
  | some p => exact if_pos (h p rfl)

/-- Settles O19: a field out of its encoding is refused, and without another profile nothing is raised, so the record is
stored and no offer settled. -/
theorem amendWithoutProfile : Obligations.AmendWithoutProfile := by
  intro s id profile district ackMode slot r hx h0 h1 hf hp hd hm
  refine ⟨fun hout => congrArg Host.Outcome.next (carryOut_answers hx rfl ?_), fun hp' hd' hm' =>
    congrArg Host.Outcome.next ((carryOut_acts hx rfl).trans ?_)⟩
  · refine amendAct_range h0 h1 hf hp hd hm ?_
    obtain ⟨n, hn, h⟩ | ⟨n, hn, h⟩ | ⟨n, hn, h⟩ := hout
    · exact .inl (readOptional_eq_none hn (index16_eq_none h))
    · exact .inr (.inl (readOptional_eq_none hn (index32_eq_none h)))
    · exact .inr (.inr (readOptional_eq_none hn (readAckMode_eq_none h)))
  · have ep : readOptional index16 profile = some (profile.map fun _ => r.profile) :=
      readOptional_eq_some fun n hn => by rw [hp' n hn, index16_val]
    rw [amendAct_amends h0 h1 hf hp hd hm ep (readOptional_district hd') (readOptional_ackMode hm'),
      amendRecord_profile_stays s _ _ (by simp)]
    rfl

/-- With no fill, no OVERFULL and no valid rate there is no projection, whatever the base (R73). -/
theorem project_of_unmeasured (rate threshold base : Nat) :
    project none false rate false threshold base = (Config.noProjection, none) := rfl

/-- AMEND of a BARRED record to another profile leaves the projection as it is (R18). -/
theorem amendRecord_of_barred (s : State) {profile : Fin 16} (district : Option (Fin 32)) (ackMode : Option AckMode)
    {r : BinRecord} (h : profile ≠ r.profile) (hb : r.standing = .barred) :
    amendRecord s (some profile) district ackMode r =
      ({ r with
          profile := profile
          district := district.getD r.district
          ackMode := ackMode.getD r.ackMode
          rebasePending := r.rebasePending || depthsDiffer (s.profile r.profile) (s.profile profile) }, []) :=
  (if_neg h).trans (if_pos hb)

/-- AMEND to another profile otherwise projects anew, the last reading time as base (R18, R79). -/
theorem amendRecord_reprojects (s : State) {profile : Fin 16} (district : Option (Fin 32)) (ackMode : Option AckMode)
    {r : BinRecord} (h : profile ≠ r.profile) (hb : r.standing ≠ .barred) :
    amendRecord s (some profile) district ackMode r =
      reproject (s.profile profile).threshold (r.lastReading.getD 0) s.clock.uptime s.soonHorizon
        { r with
          profile := profile
          district := district.getD r.district
          ackMode := ackMode.getD r.ackMode
          rebasePending := r.rebasePending || depthsDiffer (s.profile r.profile) (s.profile profile) } :=
  (if_neg h).trans (if_neg hb)

theorem depthsDiffer_eq_decide (p q : Profile) :
    depthsDiffer p q = decide (p.emptyDepth ≠ q.emptyDepth ∨ p.fullDepth ≠ q.fullDepth) := by
  rw [Bool.eq_iff_iff]
  simp [depthsDiffer]

/-- Settles O20: the record with the new profile, then the split on BARRED; where the last reading time is absent the
projection does not look at its base. -/
theorem amendChangesProfile : Obligations.AmendChangesProfile := by
  intro s id profile district ackMode slot r r1 hx h0 h1 hf hne hd hm hr1
  have act := amendAct_amends (s := s) h0 h1 hf (profile := some profile.val)
    (by rintro n ⟨⟩; omega) (fun n hn => Nat.lt_trans (hd n hn) (by decide))
    (fun n hn => Nat.lt_trans (hm n hn) (by decide))
    (readOptional_eq_some (f := fun _ => profile) (by rintro n ⟨⟩; exact index16_val profile))
    (readOptional_district hd) (readOptional_ackMode hm)
  rw [Option.map_some] at act
  rw [← depthsDiffer_eq_decide] at hr1
  refine ⟨fun hb => congrArg Host.Outcome.next ((carryOut_acts hx rfl).trans ?_),
    fun base hours due band projected r2 hb hbase hproj hband hrate hr2 =>
      congrArg Host.Outcome.next ((carryOut_acts hx rfl).trans ?_)⟩
  · rw [act, amendRecord_of_barred s _ _ hne hb, hr1]
    rfl
  · have hproj' : project r.fill r.conditions.overfull r.rate r.rateValid (s.profile profile).threshold
        (r.lastReading.getD 0) = (hours, due) := by
      obtain hl | ⟨hfill, hover⟩ := hbase
      · rw [hl]; exact hproj
      · rw [hfill, hover, hrate hfill, project_of_unmeasured] at hproj
        rw [hfill, hover, hrate hfill, project_of_unmeasured, hproj]
    rw [act, amendRecord_reprojects s _ _ hne hb]
    simp only [reproject, applyBand, hproj', hband, hr2, hr1]
    rfl

/-! ## RETIRE, BAR and UNBAR -/

theorem identityBody_length (id : Identity) : fixedLength 4 (identityBody id).length = true := rfl

/-- Settles O21: an identity held is found, and the act writes exactly the blocks R20 names. -/
theorem retireEndsRecord : Obligations.RetireEndsRecord := by
  intro s id slot r hx h0 h1 hf
  have act : retireAct (identityBody id) s = (retireSlot slot s, .retired id slot (s.entriesOf slot)) := by
    rw [retireAct, onRecord_found _ (identityAt_identityBody id) h0 h1 hf, (State.mem_of_find hf).2]
  exact congrArg Host.Outcome.next ((carryOut_acts hx (identityBody_length id)).trans (by rw [act]; rfl))

theorem barAct_barred {s : State} {id : Identity} {slot : Nat} {r : BinRecord} (h0 : id ≠ 0#32)
    (h1 : id ≠ 0xFFFFFFFF#32) (hf : s.find id = some (slot, r)) (hb : r.standing = .barred) :
    barAct (identityBody id) s = (s, .barred id 0) := by
  rw [barAct, onRecord_found _ (identityAt_identityBody id) h0 h1 hf, if_pos hb, (State.mem_of_find hf).2]

theorem barAct_bars {s : State} {id : Identity} {slot : Nat} {r : BinRecord} (h0 : id ≠ 0#32)
    (h1 : id ≠ 0xFFFFFFFF#32) (hf : s.find id = some (slot, r)) (hb : r.standing ≠ .barred) :
    barAct (identityBody id) s =
      ((purge slot s).putBin slot { r with standing := .barred, band := .none }, .barred id (s.entriesOf slot)) := by
  rw [barAct, onRecord_found _ (identityAt_identityBody id) h0 h1 hf, if_neg hb, (State.mem_of_find hf).2]

/-- Settles O22, by the split on BARRED. -/
theorem barStopsRecord : Obligations.BarStopsRecord := by
  intro s id slot r hx h0 h1 hf
  refine ⟨fun hb => congrArg Host.Outcome.next ?_, fun hb => congrArg Host.Outcome.next ?_⟩
  · exact carryOut_answers hx (identityBody_length id) (barAct_barred h0 h1 hf hb)
  · exact (carryOut_acts hx (identityBody_length id)).trans (by rw [barAct_bars h0 h1 hf hb]; rfl)

theorem unbarAct_not_barred {s : State} {id : Identity} {slot : Nat} {r : BinRecord} (h0 : id ≠ 0#32)
    (h1 : id ≠ 0xFFFFFFFF#32) (hf : s.find id = some (slot, r)) (hb : r.standing ≠ .barred) :
    unbarAct (identityBody id) s = (s, .done id) := by
  rw [unbarAct, onRecord_found _ (identityAt_identityBody id) h0 h1 hf, if_neg hb, (State.mem_of_find hf).2]

theorem unbarAct_revives {s : State} {id : Identity} {slot : Nat} {r : BinRecord} (h0 : id ≠ 0#32)
    (h1 : id ≠ 0xFFFFFFFF#32) (hf : s.find id = some (slot, r)) (hb : r.standing = .barred) :
    unbarAct (identityBody id) s =
      (replaceRecord slot (unbarRecord (s.profile r.profile) s.clock.uptime s.soonHorizon r) s, .done id) := by
  rw [unbarAct, onRecord_found _ (identityAt_identityBody id) h0 h1 hf, if_pos hb, (State.mem_of_find hf).2]

/-- A revived record is ACTIVE exactly when it has a fill (R22). -/
theorem revivedStanding (fill : Option Nat) :
    (if fill.isSome then Standing.active else .enrolled) = if fill = none then .enrolled else .active := by
  cases fill <;> rfl

/-- Settles O23: the record UNBAR builds is the one R22 names, and its band offer is settled. -/
theorem unbarRevivesRecord : Obligations.UnbarRevivesRecord := by
  intro s id slot r r1 hx h0 h1 hf
  refine ⟨fun hb => congrArg Host.Outcome.next ?_, fun hb hr1 => congrArg Host.Outcome.next ?_⟩
  · exact carryOut_answers hx (identityBody_length id) (unbarAct_not_barred h0 h1 hf hb)
  · refine (carryOut_acts hx (identityBody_length id)).trans ?_
    rw [unbarAct_revives h0 h1 hf hb, hr1, ← revivedStanding]
    rfl

/-! ## The refusals, and the commands that only read -/

/-- Settles O18: ENROL's checks in their order, then the one identity check the other five share. -/
theorem binTableRefusals : Obligations.BinTableRefusals := by
  refine ⟨fun s id profile district ackMode hp hd hm hx => ?_, fun s id profile district ackMode st hst => ?_⟩
  · obtain ⟨eid, ep, ed, em⟩ := enrolBody_fields id hp hd hm
    refine ⟨fun hout => congrArg Host.Outcome.next (carryOut_answers hx rfl ?_), fun h0 h1 hp' hd' hm' => ?_⟩
    · refine (enrolAct_range ?_).trans (by rw [eid])
      rw [eid, ep, ed, em, validIdentity_eq_false_iff]
      obtain h | h | h | h | h := hout
      · exact .inl (.inl h)
      · exact .inl (.inr h)
      · exact .inr (.inl (index16_eq_none h))
      · exact .inr (.inr (.inl (index32_eq_none h)))
      · exact .inr (.inr (.inr (readAckMode_eq_none h)))
    · have hv := (validIdentity_iff id).mpr ⟨h0, h1⟩
      rw [← eid] at hv
      have hp16 := (congrArg index16 ep).trans (if_pos hp')
      have hd32 := (congrArg index32 ed).trans (index32_of_lt hd')
      have hmode := (congrArg readAckMode em).trans (readAckMode_of_lt hm')
      refine ⟨fun hf => congrArg Host.Outcome.next (carryOut_answers hx rfl ?_),
        fun hf ho => congrArg Host.Outcome.next (carryOut_answers hx rfl ?_)⟩
      · exact (enrolAct_exists hv hp16 hd32 hmode (by rw [eid]; exact hf)).trans (by rw [eid])
      · exact (enrolAct_full hv hp16 hd32 hmode (by rw [eid]; exact hf) (lowestVacant_eq_none ho)).trans (by rw [eid])
  · have identityRefused {type : Byte} {act : List Byte → State → State × Reply}
        (ha : act (identityBody id) s = (s, .refusedIdentity st id)) (hx : Executing s type (identityBody id)) :
        Host.Outcome.next (φ := Fault) (ρ := Refusal) (carryOut type (fixedLength 4) act s) =
          .next (s.answerHeld (.refusedIdentity st id)) :=
      congrArg Host.Outcome.next (carryOut_answers hx (identityBody_length id) ha)
    have unknown (act : Nat → BinRecord → State × Reply) := onRecord_refuses act (identityAt_identityBody id) hst
    exact ⟨fun hx => congrArg Host.Outcome.next
        (carryOut_answers hx rfl (onRecord_refuses _ (identityAt_amendBody ..) hst)),
      identityRefused (unknown _), identityRefused (unknown _), identityRefused (unknown _),
      identityRefused (unknown _)⟩

/-- Settles O24: the three acts leave the state and answer what it holds. -/
theorem readingCommandsChangeNothing : Obligations.ReadingCommandsChangeNothing := by
  refine ⟨fun s id slot r hx h0 h1 hf => ?_, fun s hx => ?_, fun s hx => ?_⟩
  · exact congrArg Host.Outcome.next (carryOut_answers hx (identityBody_length id)
      (onRecord_found _ (identityAt_identityBody id) h0 h1 hf))
  · exact congrArg Host.Outcome.next (carryOut_answers hx rfl rfl)
  · exact congrArg Host.Outcome.next (carryOut_answers hx rfl rfl)

end Sys2Proof.Machine
end

section
/-! PROOFS. What reports carry, and the two reset kinds: discarding the pool as one pass over the records, and the reset
state under the laws. -/

namespace Sys2Proof.Machine

/-! ## Reports -/

/-- Settles O39: the conversion by the clock's state, the raised bodies one by one, and the table of the nine kinds. -/
theorem reportContents : Obligations.ReportContents := by
  refine ⟨fun c time slot r b => ⟨fun h => if_pos h, fun h => if_neg (by simp [h]), ?_, rfl⟩, ?_, ?_, ?_, ?_, ?_, ?_,
    ?_, rfl⟩
  · rintro rfl
    exact ⟨rfl, fun _ _ => rfl⟩
  · intro b x hx
    simp only [List.mem_cons, List.not_mem_nil, or_false] at hx
    obtain rfl | rfl | rfl := hx
    · exact ⟨rfl, rfl, rfl⟩
    · exact ⟨rfl, rfl, rfl⟩
    · exact ⟨rfl, rfl, rfl⟩
  · exact fun _ _ _ => ⟨rfl, rfl, rfl⟩
  · exact fun _ _ _ => ⟨rfl, rfl, rfl⟩
  · exact fun _ _ _ _ _ => ⟨rfl, rfl, rfl⟩
  · exact fun _ _ _ _ _ _ => ⟨rfl, rfl, rfl⟩
  · exact fun _ _ => ⟨rfl, rfl, rfl⟩
  · exact fun _ _ _ _ => ⟨rfl, rfl, rfl⟩

/-! ## The reset state -/

@[simp] theorem State.reset_profile (i : Fin 16) : State.reset.profile i = {} := by
  simp [State.profile, State.reset]

@[simp] theorem State.reset_channel (c : Fin 8) : State.reset.channel c = {} := by
  simp [State.channel, State.reset]

/-- Settles O54: the items of the reset state are the values it is built with. -/
theorem powerOnStartsAfresh : Obligations.PowerOnStartsAfresh :=
  ⟨fun _ => rfl, rfl, State.reset_profile, rfl, rfl, rfl, rfl, rfl, rfl, rfl, State.reset_channel, rfl, rfl, rfl, rfl,
    rfl, rfl, rfl, rfl, rfl, rfl, rfl⟩

/-- The default profile is in its ranges (R49). -/
theorem profileLaw_default : ProfileLaw {} := by
  constructor <;> decide

theorem queueLaw_reset : QueueLaw State.reset where
  intake := by decide
  answers := by decide
  strangers := by decide
  commands := by decide
  pool := by simp [State.queued, allChannels]
  queues c := by simp
  disabled c _ := by simp
  sending c h := by cases h
  sweeping h := absurd rfl h

theorem identityLaw_reset : IdentityLaw State.reset where
  table := rfl
  distinct := .nil
  valid _ h := by cases h
  strangersDistinct := .nil
  strangersUnknown _ h := by cases h
  strangersValid _ h := by cases h
  intake _ h := by cases h

theorem estimateLaw_reset : EstimateLaw State.reset where
  profiles i := by rw [State.reset_profile]; exact profileLaw_default
  records _ h := by cases h

theorem clockLaw_reset : ClockLaw State.reset := by
  constructor <;> decide

/-- Settles O60: nothing is queued, held or enrolled, and every profile is the default one. -/
theorem resetMeetsLaws : Obligations.ResetMeetsLaws :=
  ⟨queueLaw_reset, identityLaw_reset, estimateLaw_reset, clockLaw_reset⟩

/-! ## The engine reset -/

/-- An owed mask after copies of a channel are discarded: its bit is set when one of them is attached to the slot
(R131). -/
def owedAfter (c : Fin 8) (copies : List Copy) (slot : Nat) (mask : BitVec 8) : BitVec 8 :=
  if ∃ k ∈ copies, k.ref = .attached slot then owedSet c mask else mask

theorem owedSet_owedSet (c : Fin 8) (mask : BitVec 8) : owedSet c (owedSet c mask) = owedSet c mask := by
  simp [owedSet, BitVec.or_assoc]

/-- A copy and those after it set the bit as all of them together do, since a bit set twice is set. -/
theorem owedAfter_cons (c : Fin 8) (k : Copy) (copies : List Copy) (slot : Nat) (mask : BitVec 8) :
    owedAfter c copies slot (if k.ref = .attached slot then owedSet c mask else mask) =
      owedAfter c (k :: copies) slot mask := by
  by_cases hk : k.ref = .attached slot
  · by_cases hl : ∃ j ∈ copies, j.ref = .attached slot
    · simp [owedAfter, hk, hl, owedSet_owedSet]
    · simp [owedAfter, hk, hl]
  · simp [owedAfter, hk]

/-- Every record of a table with another owed mask, by its slot. -/
def mapOwed (f : Nat → BitVec 8 → BitVec 8) (t : SlotTable BinRecord) : SlotTable BinRecord :=
  t.map fun p => (p.1, { p.2 with owed := f p.1 p.2.owed })

theorem mapOwed_id (t : SlotTable BinRecord) : mapOwed (fun _ mask => mask) t = t := List.map_id' t

theorem mapOwed_mapOwed (f g : Nat → BitVec 8 → BitVec 8) (t : SlotTable BinRecord) :
    mapOwed g (mapOwed f t) = mapOwed (fun slot mask => g slot (f slot mask)) t := by
  simp [mapOwed]

theorem discardCopy_bins (c : Fin 8) (s : State) (k : Copy) :
    (discardCopy c s k).bins =
      mapOwed (fun slot mask => if k.ref = .attached slot then owedSet c mask else mask) s.bins := by
  unfold discardCopy
  split
  next n hk =>
    refine List.map_congr_left fun p _ => ?_
    by_cases hp : p.1 = n
    · simp [hk, hp]
    · simp [hk, hp, Ne.symm hp]
  next hk => simp [hk, mapOwed_id]
  next hk => simp [hk, mapOwed_id]

/-- Copies discarded are one pass over the records (R131). -/
theorem discardCopies_bins (c : Fin 8) (copies : List Copy) (s : State) :
    (discardCopies c copies s).bins = mapOwed (owedAfter c copies) s.bins := by
  induction copies generalizing s with
  | nil => exact (mapOwed_id s.bins).symm
  | cons k copies ih =>
    calc (discardCopies c copies (discardCopy c s k)).bins
        = mapOwed (owedAfter c copies) (discardCopy c s k).bins := ih _
      _ = mapOwed (owedAfter c (k :: copies)) s.bins := by
          rw [discardCopy_bins, mapOwed_mapOwed]
          simp only [owedAfter_cons]

/-- The queues of several channels discarded are one pass over the records (R131, R141). -/
theorem discardQueues_bins (queue : Fin 8 → List Copy) (l : List (Fin 8)) (s : State) :
    (l.foldl (fun t c => discardCopies c (queue c) t) s).bins =
      mapOwed (fun slot mask => l.foldl (fun m c => owedAfter c (queue c) slot m) mask) s.bins := by
  induction l generalizing s with
  | nil => exact (mapOwed_id s.bins).symm
  | cons c l ih =>
    rw [List.foldl_cons, ih, discardCopies_bins, mapOwed_mapOwed]
    rfl

/-- Settles O53: the records after the reset are those of one pass that sets the owed bits of the copies discarded; the
rest of the state is written out by the reset. -/
theorem engineResetKeepsRetained : Obligations.EngineResetKeepsRetained := by
  intro s cause bins hb
  have pool : (discardPool s).bins = bins := (discardQueues_bins (fun c => (s.channel c).queue) _ s).trans hb.symm
  refine ⟨?_, fun _ => rfl, rfl⟩
  rw [← pool]
  rfl

end Sys2Proof.Machine
end

section
/-! PROOFS. What one event can do to the records, the profiles, the strangers and the Intake Queue, said once as a few
kinds of change, and the law of each: the identity law is read slot by slot, the record law is kept stage by stage. -/

namespace Sys2Proof.Machine

/-! ## The kinds of change -/

/-- Nothing new: records but for owed masks and profiles are the same, strangers and Intake Queue entries only fewer. -/
structure NothingNew (s t : State) : Prop where
  records : noOwedTable t.bins = noOwedTable s.bins
  profiles : t.profiles = s.profiles
  strangers : (t.strangers.entries.map StrangerEntry.identity).Sublist (s.strangers.entries.map StrangerEntry.identity)
  intake : t.intake.queue.Sublist s.intake.queue

/-- A record edited in place: it keeps its identity, is not barred by the edit, and keeps its law under lawful
profiles. -/
structure Edit (s : State) (r r' : BinRecord) : Prop where
  identity : r'.identity = r.identity
  barred : r'.standing = .barred → r.standing = .barred
  law : (∀ i, ProfileLaw (s.profile i)) → RecordLaw r → RecordLaw r'

/-- One change of the records, the profiles, the strangers or the Intake Queue. -/
inductive Change (s : State) : State → Prop
  | nothingNew {t : State} (h : NothingNew s t) : Change s t
  /-- Records edited one after another, each from what its slot held before (R82, R95). -/
  | edits (moves : List Move) (h : ∀ m ∈ moves, ∃ r, (m.1, r) ∈ s.bins ∧ Edit s r m.2.1) :
      Change s (moves.foldl (fun t m => t.putBin m.1 m.2.1) s)
  /-- An accepted ENROL (R15, R116). -/
  | enrols {slot : Nat} {id : Identity} (profile : Fin 16) (district : Fin 32) (ackMode : AckMode)
      (hv : validIdentity id = true) (hf : s.find id = none) (hl : s.lowestVacant = some slot) :
      Change s (enrolInto slot id profile district ackMode s)
  /-- A record retired (R20). -/
  | retires (slot : Nat) : Change s (retireSlot slot s)
  /-- A record barred, its entries purged (R21). -/
  | bars {slot : Nat} {r : BinRecord} (h : (slot, r) ∈ s.bins) :
      Change s ((purge slot s).putBin slot { r with standing := .barred, band := .none })
  /-- An entry appended to the Intake Queue (R40). -/
  | admits {x : Intake} {e : IntakeEntry} {r : BinRecord} (hx : x.queue = s.intake.queue ++ [e])
      (hm : (e.slot, r) ∈ s.bins) (hb : r.standing ≠ .barred) : Change s (s.setIntake x)
  /-- A stranger appended to the Stranger List (R110). -/
  | hears {h : Hearing} (hv : validIdentity h.identity = true) (hf : s.find h.identity = none)
      (hs : s.stranger h.identity = none) :
      Change s (s.setStrangers { s.strangers with entries := s.strangers.entries ++ [newStranger s.clock.uptime h] })
  /-- A profile stored (R51, R52). -/
  | stores (i : Fin 16) {p : Profile} (hp : ProfileLaw p) : Change s (storeProfile i p s)
  /-- All state started afresh (R25). -/
  | restarts {t : State} (h : NothingNew State.reset t) : Change s t

/-- The changes of one event, one after another. -/
abbrev Changes : State → State → Prop := Relation.ReflTransGen Change

theorem NothingNew.of_eq {s t : State} (hb : t.bins = s.bins) (hp : t.profiles = s.profiles)
    (hs : t.strangers.entries = s.strangers.entries) (hi : t.intake.queue = s.intake.queue) : NothingNew s t :=
  ⟨congrArg noOwedTable hb, hp, by rw [hs], by rw [hi]⟩

theorem NothingNew.refl (s : State) : NothingNew s s := .of_eq rfl rfl rfl rfl

theorem NothingNew.trans {s t u : State} (h : NothingNew s t) (k : NothingNew t u) : NothingNew s u :=
  ⟨k.records.trans h.records, k.profiles.trans h.profiles, k.strangers.trans h.strangers, k.intake.trans h.intake⟩

theorem OffersOnly.nothingNew {s t : State} (h : OffersOnly s t) : NothingNew s t :=
  ⟨h.bins, h.profiles, by rw [h.strangers], by rw [h.intake]⟩

theorem NothingNew.changes {s t : State} (h : NothingNew s t) : Changes s t := .single (.nothingNew h)

theorem Edit.changes {s : State} {slot : Nat} {r r' : BinRecord} (h : Edit s r r') (hm : (slot, r) ∈ s.bins) :
    Changes s (s.putBin slot r') :=
  .single (.edits [(slot, r', [])] (by simpa using ⟨r, hm, h⟩))

/-! ## The identity law, slot by slot -/

/-- The identity law with records named by their slots and strangers by their identities. -/
structure SlotLaw (s : State) : Prop where
  table : tableWf s.bins = true
  distinct : ∀ m n p q, s.bin m = some p → s.bin n = some q → p.identity = q.identity → m = n
  valid : ∀ n r, s.bin n = some r → validIdentity r.identity = true
  strangersDistinct : (s.strangers.entries.map StrangerEntry.identity).Nodup
  strangersUnknown : ∀ i ∈ s.strangers.entries.map StrangerEntry.identity, ∀ n r, s.bin n = some r → i ≠ r.identity
  strangersValid : ∀ i ∈ s.strangers.entries.map StrangerEntry.identity, validIdentity i = true
  intake : ∀ e ∈ s.intake.queue, ∃ r, s.bin e.slot = some r ∧ r.standing ≠ .barred

theorem IdentityLaw.slotLaw {s : State} (h : IdentityLaw s) : SlotLaw s where
  table := h.table
  distinct m n p q hp hq e := by
    have : Std.Symm fun p q : Nat × BinRecord => p.2.identity ≠ q.2.identity := ⟨fun _ _ => Ne.symm⟩
    by_contra hmn
    exact h.distinct.forall (mem_of_tableGet hp) (mem_of_tableGet hq) (fun h => hmn (congrArg Prod.fst h)) e
  valid n r hr := h.valid _ (mem_of_tableGet hr)
  strangersDistinct := List.pairwise_map.mpr h.strangersDistinct
  strangersUnknown := List.forall_mem_map.mpr fun e he _ _ hr => h.strangersUnknown e he _ (mem_of_tableGet hr)
  strangersValid := List.forall_mem_map.mpr h.strangersValid
  intake := h.intake

theorem SlotLaw.identityLaw {s : State} (h : SlotLaw s) : IdentityLaw s where
  table := h.table
  distinct := ((tableWf_iff _).mp h.table).1.imp_of_mem fun hp hq hlt e =>
    Nat.ne_of_lt hlt (h.distinct _ _ _ _ (tableGet_of_mem h.table hp) (tableGet_of_mem h.table hq) e)
  valid p hp := h.valid p.1 p.2 (tableGet_of_mem h.table hp)
  strangersDistinct := List.pairwise_map.mp h.strangersDistinct
  strangersUnknown _ he p hp := h.strangersUnknown _ (List.mem_map_of_mem he) p.1 p.2 (tableGet_of_mem h.table hp)
  strangersValid _ he := h.strangersValid _ (List.mem_map_of_mem he)
  intake := h.intake

/-- The identity map finds nothing exactly when no slot holds the identity (R2). -/
theorem State.identity_ne_of_find_none {s : State} {id : Identity} (h : s.find id = none) {n : Nat} {r : BinRecord}
    (hr : s.bin n = some r) : r.identity ≠ id := by
  simpa using List.find?_eq_none.mp h _ (mem_of_tableGet hr)

theorem State.not_mem_of_stranger_none {s : State} {id : Identity} (h : s.stranger id = none) :
    id ∉ s.strangers.entries.map StrangerEntry.identity := by
  simpa [State.stranger] using h

/-- Where slots hold no other identities and there are no new strangers, the law needs only its table and intake
parts. -/
theorem SlotLaw.of_holders {s t : State} (h : SlotLaw s) (table : tableWf t.bins = true)
    (holders : ∀ n r', t.bin n = some r' → ∃ r, s.bin n = some r ∧ r'.identity = r.identity)
    (strangers : (t.strangers.entries.map StrangerEntry.identity).Sublist
      (s.strangers.entries.map StrangerEntry.identity))
    (intake : ∀ e ∈ t.intake.queue, ∃ r, t.bin e.slot = some r ∧ r.standing ≠ .barred) : SlotLaw t where
  table := table
  distinct m n p q hp hq e := by
    obtain ⟨p', hp', ep⟩ := holders m p hp
    obtain ⟨q', hq', eq⟩ := holders n q hq
    exact h.distinct m n p' q' hp' hq' (by rw [← ep, ← eq, e])
  valid n r hr := by
    obtain ⟨r', hr', e⟩ := holders n r hr
    exact e ▸ h.valid n r' hr'
  strangersDistinct := h.strangersDistinct.sublist strangers
  strangersUnknown i hi n r hr := by
    obtain ⟨r', hr', e⟩ := holders n r hr
    exact e ▸ h.strangersUnknown i (strangers.subset hi) n r' hr'
  strangersValid i hi := h.strangersValid i (strangers.subset hi)
  intake := intake

/-- Every slot keeps its identity, and no record becomes BARRED. -/
def SameHolders (s t : State) : Prop :=
  (∀ n r', t.bin n = some r' → ∃ r, s.bin n = some r ∧ r'.identity = r.identity) ∧
    ∀ n r, s.bin n = some r → r.standing ≠ .barred → ∃ r', t.bin n = some r' ∧ r'.standing ≠ .barred

theorem SlotLaw.of_sameHolders {s t : State} (h : SlotLaw s) (table : tableWf t.bins = true) (same : SameHolders s t)
    (strangers : (t.strangers.entries.map StrangerEntry.identity).Sublist
      (s.strangers.entries.map StrangerEntry.identity))
    (intake : t.intake.queue.Sublist s.intake.queue) : SlotLaw t :=
  h.of_holders table same.1 strangers fun e he => by
    obtain ⟨r, hr, hb⟩ := h.intake e (intake.subset he)
    exact same.2 _ r hr hb

/-- A record is put where one of the same identity stood. -/
theorem SameHolders.putBin {s t : State} (same : SameHolders s t) {slot : Nat} {r r' : BinRecord}
    (hr : s.bin slot = some r) (hid : r'.identity = r.identity) (hb : r'.standing = .barred → r.standing = .barred) :
    SameHolders s (t.putBin slot r') := by
  refine ⟨fun n q hq => ?_, fun n q hq hn => ?_⟩
  · rw [State.putBin_bin] at hq
    split at hq
    next e => cases hq; exact ⟨r, e ▸ hr, hid⟩
    next => exact same.1 n q hq
  · rw [State.putBin_bin]
    split
    next e =>
      subst e
      cases hr.symm.trans hq
      exact ⟨r', rfl, mt hb hn⟩
    next => exact same.2 n q hq hn

theorem NothingNew.bin {s t : State} (h : NothingNew s t) (n : Nat) : (t.bin n).map noOwed = (s.bin n).map noOwed := by
  rw [← noOwed_bin, ← noOwed_bin, h.records]

theorem noOwed_eq {r r' : BinRecord} (h : noOwed r = noOwed r') :
    r.identity = r'.identity ∧ r.standing = r'.standing :=
  ⟨(congrArg BinRecord.identity h :), (congrArg BinRecord.standing h :)⟩

theorem NothingNew.sameHolders {s t : State} (h : NothingNew s t) : SameHolders s t := by
  refine ⟨fun n r' hr' => ?_, fun n r hr hb => ?_⟩
  · have e := h.bin n
    rw [hr', Option.map_some, eq_comm, Option.map_eq_some_iff] at e
    obtain ⟨r, hr, e⟩ := e
    exact ⟨r, hr, (noOwed_eq e).1.symm⟩
  · have e := h.bin n
    rw [hr, Option.map_some, Option.map_eq_some_iff] at e
    obtain ⟨r', hr', e⟩ := e
    exact ⟨r', hr', (noOwed_eq e).2 ▸ hb⟩

theorem tableWf_noOwedTable (b : SlotTable BinRecord) : tableWf (noOwedTable b) = tableWf b := by
  simp [tableWf, noOwedTable, List.pairwise_map, List.all_map, Function.comp_def]

theorem SlotLaw.nothingNew {s t : State} (h : SlotLaw s) (k : NothingNew s t) : SlotLaw t :=
  h.of_sameHolders (by rw [← tableWf_noOwedTable, k.records, tableWf_noOwedTable, h.table]) k.sameHolders k.strangers
    k.intake

/-- Moves put one after another: the table stays canonical and its slots keep their holders. -/
theorem putMoves_sameHolders {s t : State} (wf : tableWf s.bins = true) (moves : List Move)
    (h : ∀ m ∈ moves, ∃ r, (m.1, r) ∈ s.bins ∧ Edit s r m.2.1) (ht : tableWf t.bins = true) (same : SameHolders s t) :
    tableWf (moves.foldl (fun t m => t.putBin m.1 m.2.1) t).bins = true ∧
      SameHolders s (moves.foldl (fun t m => t.putBin m.1 m.2.1) t) := by
  induction moves generalizing t with
  | nil => exact ⟨ht, same⟩
  | cons m moves ih =>
    obtain ⟨r, hr, edit⟩ := h m List.mem_cons_self
    exact ih (fun m hm => h m (List.mem_cons_of_mem _ hm)) (tablePut_wf ht (((tableWf_iff _).mp wf).2 _ hr) _)
      (same.putBin (tableGet_of_mem wf hr) edit.identity edit.barred)

theorem putMoves_frame (moves : List Move) (s : State) :
    (moves.foldl (fun t m => t.putBin m.1 m.2.1) s).profiles = s.profiles ∧
      (moves.foldl (fun t m => t.putBin m.1 m.2.1) s).strangers = s.strangers ∧
      (moves.foldl (fun t m => t.putBin m.1 m.2.1) s).intake = s.intake := by
  induction moves generalizing s with
  | nil => exact ⟨rfl, rfl, rfl⟩
  | cons m moves ih => exact ih _

theorem SlotLaw.edits {s : State} (h : SlotLaw s) (moves : List Move)
    (hm : ∀ m ∈ moves, ∃ r, (m.1, r) ∈ s.bins ∧ Edit s r m.2.1) :
    SlotLaw (moves.foldl (fun t m => t.putBin m.1 m.2.1) s) := by
  obtain ⟨wf, same⟩ := putMoves_sameHolders h.table moves hm h.table (NothingNew.refl s).sameHolders
  obtain ⟨-, hs, hi⟩ := putMoves_frame moves s
  exact h.of_sameHolders wf same (by rw [hs]) (by rw [hi])

theorem SlotLaw.enrols {s : State} (h : SlotLaw s) {slot : Nat} {id : Identity} (profile : Fin 16)
    (district : Fin 32) (ackMode : AckMode) (hv : validIdentity id = true) (hf : s.find id = none)
    (hl : s.lowestVacant = some slot) : SlotLaw (enrolInto slot id profile district ackMode s) := by
  obtain ⟨-, hs, hvac, -⟩ := lowestVacantFrom_some hl
  have bins : ∀ n r, (enrolInto slot id profile district ackMode s).bin n = some r →
      n = slot ∧ r.identity = id ∨ s.bin n = some r := fun n r hr => by
    rw [enrolInto, State.putBin_bin] at hr
    split at hr
    next e => cases hr; exact .inl ⟨e.symm, rfl⟩
    next => exact .inr hr
  have mem : ∀ i ∈ (enrolInto slot id profile district ackMode s).strangers.entries.map StrangerEntry.identity,
      i ∈ s.strangers.entries.map StrangerEntry.identity ∧ i ≠ id :=
    List.forall_mem_map.mpr fun e he => by
      obtain ⟨he, hne⟩ := List.mem_filter.mp he
      exact ⟨List.mem_map_of_mem he, by simpa using hne⟩
  refine ⟨tablePut_wf h.table (by simpa [Config.slots] using hs) _, fun m n p q hp hq e => ?_, fun n r hr => ?_, ?_,
    fun i hi n r hr => ?_, fun i hi => h.strangersValid i (mem i hi).1, fun e he => ?_⟩
  · obtain ⟨hm, ep⟩ | hp' := bins m p hp
    · obtain ⟨hn, -⟩ | hq' := bins n q hq
      · exact hm.trans hn.symm
      · exact absurd (e.symm.trans ep) (State.identity_ne_of_find_none hf hq')
    · obtain ⟨-, eq⟩ | hq' := bins n q hq
      · exact absurd (e.trans eq) (State.identity_ne_of_find_none hf hp')
      · exact h.distinct m n p q hp' hq' e
  · obtain ⟨-, e⟩ | hr := bins n r hr
    · exact e ▸ hv
    · exact h.valid n r hr
  · exact h.strangersDistinct.sublist (List.filter_sublist.map _)
  · obtain ⟨-, e⟩ | hr := bins n r hr
    · exact e ▸ (mem i hi).2
    · exact h.strangersUnknown i (mem i hi).1 n r hr
  · obtain ⟨r, hr, hb⟩ := h.intake e he
    have hne : slot ≠ e.slot := by rintro rfl; cases hvac.symm.trans hr
    exact ⟨r, by rw [enrolInto, State.putBin_bin, if_neg hne]; exact hr, hb⟩

theorem SlotLaw.retires {s : State} (h : SlotLaw s) (slot : Nat) : SlotLaw (retireSlot slot s) := by
  have bins : ∀ n, (retireSlot slot s).bin n = if slot = n then none else s.bin n := tableGet_tableRemove s.bins slot
  refine h.of_holders (tableRemove_wf h.table slot) (fun n r hr => ?_) (.refl _) fun e he => ?_
  · rw [bins] at hr
    split at hr
    next => cases hr
    next => exact ⟨r, hr, rfl⟩
  · obtain ⟨he, hne⟩ := List.mem_filter.mp he
    rw [bins, if_neg (Ne.symm (bne_iff_ne.mp hne))]
    exact h.intake e he

theorem SlotLaw.bars {s : State} (h : SlotLaw s) {slot : Nat} {r : BinRecord} (hm : (slot, r) ∈ s.bins) :
    SlotLaw ((purge slot s).putBin slot { r with standing := .barred, band := .none }) := by
  refine h.of_holders (tablePut_wf h.table (((tableWf_iff _).mp h.table).2 _ hm) _) (fun n q hq => ?_) (.refl _)
    fun e he => ?_
  · rw [State.putBin_bin] at hq
    split at hq
    next e => cases hq; exact ⟨r, e ▸ tableGet_of_mem h.table hm, rfl⟩
    next => exact ⟨q, hq, rfl⟩
  · obtain ⟨he, hne⟩ := List.mem_filter.mp he
    rw [State.putBin_bin, if_neg (Ne.symm (bne_iff_ne.mp hne))]
    exact h.intake e he

theorem SlotLaw.admits {s : State} (h : SlotLaw s) {x : Intake} {e : IntakeEntry} {r : BinRecord}
    (hx : x.queue = s.intake.queue ++ [e]) (hm : (e.slot, r) ∈ s.bins) (hb : r.standing ≠ .barred) :
    SlotLaw (s.setIntake x) := by
  refine h.of_holders h.table (fun n r hr => ⟨r, hr, rfl⟩) (.refl _) fun d hd => ?_
  rw [State.setIntake_intake, hx, List.mem_append, List.mem_singleton] at hd
  obtain hd | rfl := hd
  · exact h.intake d hd
  · exact ⟨r, tableGet_of_mem h.table hm, hb⟩

theorem SlotLaw.hears {s : State} (h : SlotLaw s) {g : Hearing} (hv : validIdentity g.identity = true)
    (hf : s.find g.identity = none) (hs : s.stranger g.identity = none) :
    SlotLaw
      (s.setStrangers { s.strangers with entries := s.strangers.entries ++ [newStranger s.clock.uptime g] }) := by
  have ids : (s.strangers.entries ++ [newStranger s.clock.uptime g]).map StrangerEntry.identity =
      s.strangers.entries.map StrangerEntry.identity ++ [g.identity] := by simp [newStranger]
  refine ⟨h.table, h.distinct, h.valid, ?_, ?_, ?_, h.intake⟩
  · rw [State.setStrangers_strangers, ids, ← List.concat_eq_append, List.nodup_concat]
    exact ⟨State.not_mem_of_stranger_none hs, h.strangersDistinct⟩
  · rw [State.setStrangers_strangers, ids]
    refine List.forall_mem_append.mpr ⟨h.strangersUnknown, ?_⟩
    rintro i hi n r hr rfl
    exact State.identity_ne_of_find_none hf hr (List.mem_singleton.mp hi)
  · rw [State.setStrangers_strangers, ids]
    exact List.forall_mem_append.mpr ⟨h.strangersValid, by simpa using hv⟩

/-- A profile stored marks records or leaves them, and does nothing else to them (R52). -/
theorem storeProfile_bins (i : Fin 16) (p : Profile) (s : State) :
    ∃ f : Nat × BinRecord → BinRecord, (storeProfile i p s).bins = s.bins.map (fun q => (q.1, f q)) ∧
      ∀ q, f q = q.2 ∨ f q = { q.2 with rebasePending := true } := by
  unfold storeProfile
  split
  · refine ⟨_, rfl, fun q => ?_⟩
    split
    · exact .inr rfl
    · exact .inl rfl
  · exact ⟨Prod.snd, (List.map_id' s.bins).symm, fun _ => .inl rfl⟩

theorem storeProfile_frame (i : Fin 16) (p : Profile) (s : State) :
    (storeProfile i p s).profiles = s.profiles.set i p ∧ (storeProfile i p s).strangers = s.strangers ∧
      (storeProfile i p s).intake = s.intake := by
  unfold storeProfile
  split
  · exact ⟨rfl, rfl, rfl⟩
  · exact ⟨rfl, rfl, rfl⟩

theorem SlotLaw.stores {s : State} (h : SlotLaw s) (i : Fin 16) (p : Profile) : SlotLaw (storeProfile i p s) := by
  obtain ⟨-, hs, hi⟩ := storeProfile_frame i p s
  obtain ⟨f, hb, hf⟩ := storeProfile_bins i p s
  have keeps : ∀ q, (f q).identity = q.2.identity ∧ (f q).standing = q.2.standing := fun q => by
    obtain e | e := hf q
    · rw [e]; exact ⟨rfl, rfl⟩
    · rw [e]; exact ⟨rfl, rfl⟩
  have bins : ∀ n, (storeProfile i p s).bin n = (s.bin n).map fun r => f (n, r) := fun n => by
    rw [State.bin, hb, tableGet_map, State.bin]
  refine h.of_sameHolders (by rw [hb]; exact tableMap_wf h.table f) ⟨fun n r' hr' => ?_, fun n r hr hn => ?_⟩
    (by rw [hs]) (by rw [hi])
  · rw [bins, Option.map_eq_some_iff] at hr'
    obtain ⟨r, hr, rfl⟩ := hr'
    exact ⟨r, hr, (keeps (n, r)).1⟩
  · exact ⟨f (n, r), by rw [bins, hr, Option.map_some], by rw [(keeps (n, r)).2]; exact hn⟩

/-- Every kind of change keeps the identity law. -/
theorem SlotLaw.change {s t : State} (h : SlotLaw s) (k : Change s t) : SlotLaw t := by
  cases k with
  | nothingNew k => exact h.nothingNew k
  | edits moves hm => exact h.edits moves hm
  | enrols p d m hv hf hl => exact h.enrols p d m hv hf hl
  | retires slot => exact h.retires slot
  | bars hm => exact h.bars hm
  | admits hx hm hb => exact h.admits hx hm hb
  | hears hv hf hs => exact h.hears hv hf hs
  | stores i => exact h.stores i _
  | restarts k => exact identityLaw_reset.slotLaw.nothingNew k

theorem IdentityLaw.changes {s t : State} (h : IdentityLaw s) (k : Changes s t) : IdentityLaw t := by
  induction k with
  | refl => exact h
  | tail _ k ih => exact (ih.slotLaw.change k).identityLaw

end Sys2Proof.Machine
end

section
/-! PROOFS. The record law: what every stage of an estimation keeps (StageLaw), the arithmetic of the stages within its
ranges, and the edits of records that events make. -/

namespace Sys2Proof.Machine

/-! ## The part of the law every stage keeps -/

/-- The record law without what ties fill, standing and OVERFULL together, which an estimation restores at its end
only (R58, R62, R63). -/
structure StageLaw (r : BinRecord) : Prop where
  fill : ∀ f, r.fill = some f → f ≤ 1000
  window : r.window.length ≤ 3 ∧ ∀ f ∈ r.window, f ≤ 1000
  rate : r.rate ≤ 16000
  hours : r.hours ≤ 65535
  measured : r.fill ≠ none → r.lastReading ≠ none ∧ r.window ≠ []
  due : r.due = none ↔ r.hours = 65535
  listed : r.band ≠ .none → r.due ≠ none
  latched : ∀ a, r.conditions.has a = true → r.latches.has a = true

theorem RecordLaw.stageLaw {r : BinRecord} (h : RecordLaw r) : StageLaw r := { h with }

/-- With a fill and in the state ACTIVE the rest of the record law holds. -/
theorem StageLaw.recordLaw_of_active {r : BinRecord} (h : StageLaw r) (hf : r.fill ≠ none) (hs : r.standing = .active) :
    RecordLaw r :=
  { h with
    unmeasured := fun hn => absurd hn hf
    active := fun _ => hf
    enrolled := fun he => by rw [hs] at he; cases he
    barred := fun hb => by rw [hs] at hb; cases hb }

/-- Where the state follows the fill (R58, R22), an absent one has neither a valid rate nor OVERFULL with it. -/
theorem StageLaw.recordLaw_of_fill {r : BinRecord} (h : StageLaw r)
    (hu : r.fill = none → r.rateValid = false ∧ r.conditions.overfull = false)
    (hs : r.standing = if r.fill.isSome then .active else .enrolled) : RecordLaw r := by
  cases hf : r.fill with
  | none =>
    rw [hf] at hs
    exact
      { h with
        unmeasured := hu
        active := fun e => by cases hs.symm.trans e
        enrolled := fun _ => hf
        barred := fun e => by cases hs.symm.trans e }
  | some f =>
    rw [hf] at hs
    exact h.recordLaw_of_active (by rw [hf]; nofun) hs

/-! ## Alarm sets -/

theorem AlarmSet.has_put (x : AlarmSet) (a b : Alarm) (v : Bool) :
    (x.put a v).has b = if a = b then v else x.has b := by
  cases a <;> cases b <;> rfl

theorem clearLatches_has (mask conditions latches : AlarmSet) (a : Alarm) :
    (clearLatches mask conditions latches).has a = (latches.has a && !(mask.has a && !conditions.has a)) := by
  cases a <;> rfl

/-- A condition taken away leaves the present ones latched. -/
theorem latched_put_false {conditions latches : AlarmSet} (a : Alarm)
    (h : ∀ b, conditions.has b = true → latches.has b = true) (b : Alarm)
    (hb : (conditions.put a false).has b = true) : latches.has b = true := by
  rw [AlarmSet.has_put] at hb
  split at hb
  · cases hb
  · exact h b hb

/-- A condition judged is latched when it is present afterwards (R98). -/
theorem judgeCondition_stageLaw {r : BinRecord} (h : StageLaw r) (a : Alarm) (present : Bool) :
    StageLaw (judgeCondition a present r).1 := by
  refine { h with latched := fun b hb => ?_ }
  simp only [judgeCondition, AlarmSet.has_put] at hb ⊢
  by_cases hab : a = b
  · subst hab
    rw [if_pos rfl] at hb
    have := h.latched a
    split
    · rw [AlarmSet.has_put, if_pos rfl]
    · cases hc : r.conditions.has a <;> simp_all
  · rw [if_neg hab] at hb
    split
    · rw [AlarmSet.has_put, if_neg hab]; exact h.latched b hb
    · exact h.latched b hb

/-! ## Projection and band -/

theorem project_hours_le (fill : Option Nat) (overfull : Bool) (rate : Nat) (rateValid : Bool) (threshold base : Nat) :
    (project fill overfull rate rateValid threshold base).1 ≤ 65535 := by
  unfold project
  split
  · exact Nat.zero_le _
  · split
    · exact le_refl _
    · exact Nat.le_succ_of_le (Nat.min_le_right _ 65534)

/-- A due time is absent exactly when hours is 65,535 (R73). -/
theorem project_due (fill : Option Nat) (overfull : Bool) (rate : Nat) (rateValid : Bool) (threshold base : Nat) :
    (project fill overfull rate rateValid threshold base).2 = none ↔
      (project fill overfull rate rateValid threshold base).1 = 65535 := by
  unfold project
  split
  · simp
  · split
    · simp [Config.noProjection]
    · have := Nat.min_le_right (((threshold - fill.getD 0) * 16 + rate - 1) / rate) 65534
      simp only [reduceCtorEq, false_iff]
      omega

/-- A band other than NONE comes with a due time (R74). -/
theorem bandOf_listed {hours : Nat} {due : Option Nat} (hd : due = none ↔ hours = 65535) (uptime horizon : Nat)
    (hb : (bandOf hours due uptime horizon).1 ≠ .none) : due ≠ none := by
  rintro rfl
  simp [bandOf, hd.mp rfl, Config.noProjection] at hb

theorem applyBand_stageLaw {r : BinRecord} (h : StageLaw r) (uptime horizon : Nat) :
    StageLaw (applyBand uptime horizon r).1 :=
  { h with listed := bandOf_listed h.due uptime horizon }

theorem reproject_stageLaw {r : BinRecord} (h : StageLaw r) (threshold base uptime horizon : Nat) :
    StageLaw (reproject threshold base uptime horizon r).1 :=
  { h with
    hours := project_hours_le ..
    due := project_due ..
    listed := bandOf_listed (project_due ..) uptime horizon }

/-- A projection made anew keeps the law of a record that is not BARRED (R79). -/
theorem reproject_recordLaw {r : BinRecord} (h : RecordLaw r) (hb : r.standing ≠ .barred)
    (threshold base uptime horizon : Nat) : RecordLaw (reproject threshold base uptime horizon r).1 :=
  { reproject_stageLaw h.stageLaw threshold base uptime horizon with
    unmeasured := h.unmeasured
    active := h.active
    enrolled := h.enrolled
    barred := fun e => absurd e hb }

/-! ## The arithmetic of a reading -/

theorem rawFill_le (p : Profile) (distance : Nat) : rawFill p distance ≤ 1000 := by
  have hc : p.fullDepth ≤ clamp p.fullDepth p.emptyDepth distance := Nat.le_max_left ..
  unfold rawFill
  refine Nat.div_le_of_le_mul ?_
  exact Nat.mul_le_mul_right 1000 (Nat.sub_le_sub_left hc _)

/-- A value moved toward a target by at most sixteen sixteenths stays below what bounds both (R66, R68). -/
theorem blend_le {old target weight bound : Nat} (ho : old ≤ bound) (ht : target ≤ bound) (hw : weight ≤ 16) :
    blend old target weight ≤ bound := by
  have key : sixteenth (((target : Int) - old) * weight) ≤ max ((target : Int) - old) 0 := by
    unfold sixteenth
    rcases le_total (0 : Int) ((target : Int) - old) with hd | hd
    · have hm : ((target : Int) - old) * weight ≤ ((target : Int) - old) * 16 :=
        mul_le_mul_of_nonneg_left (by omega) hd
      split <;> omega
    · have hm : ((target : Int) - old) * weight ≤ 0 := mul_nonpos_of_nonpos_of_nonneg hd (by omega)
      split <;> omega
  unfold blend
  omega

theorem candidate_le {median : Bool} {w : List Nat} {bound : Nat} (h : ∀ f ∈ w, f ≤ bound) :
    candidate median w ≤ bound := by
  match w, h with
  | [], _ => exact Nat.zero_le _
  | [a], h => exact h a (by simp)
  | [a, b], h =>
    have ha := h a (by simp)
    simp only [candidate]
    split <;> omega
  | a :: b :: c :: w, h =>
    have ha := h a (by simp)
    have hb := h b (by simp)
    simp only [candidate, median3]
    split <;> omega

theorem pushWindow_law {raw : Nat} {w : List Nat} (hr : raw ≤ 1000) (h : ∀ f ∈ w, f ≤ 1000) :
    (pushWindow raw w).length ≤ 3 ∧ ∀ f ∈ pushWindow raw w, f ≤ 1000 :=
  ⟨List.length_take_le .., fun f hf =>
    List.forall_mem_cons (p := (· ≤ 1000)).mpr ⟨hr, h⟩ f (List.mem_of_mem_take hf)⟩

theorem restartEstimate_stageLaw {r : BinRecord} (h : StageLaw r) {raw : Nat} (hr : raw ≤ 1000) (t : Nat) :
    StageLaw (restartEstimate raw t r) :=
  { h with
    fill := by rintro f ⟨⟩; exact hr
    window := ⟨by simp [restartEstimate], by simpa [restartEstimate] using hr⟩
    rate := Nat.zero_le _
    measured := fun _ => ⟨by simp [restartEstimate], by simp [restartEstimate]⟩ }

/-- Stage 8 writes rate, its validity and the last reading time (R67, R68). -/
theorem stageRate_stageLaw {p : Profile} (hp : ProfileLaw p) {r : BinRecord} (h : StageLaw r) (t old new : Nat) :
    StageLaw (stageRate p t old new r) := by
  have hs (dt : Nat) : rateSample old new dt ≤ 16000 := Nat.min_le_right ..
  unfold stageRate
  simp only
  split
  · exact { h with measured := fun hf => ⟨by simp, (h.measured hf).2⟩ }
  · refine { h with rate := ?_, measured := fun hf => ⟨by simp, (h.measured hf).2⟩ }
    split
    · exact blend_le h.rate (hs _) hp.rateWeight.2
    · exact hs _

theorem stageRate_keeps (p : Profile) (t old new : Nat) (r : BinRecord) :
    (stageRate p t old new r).fill = r.fill ∧ (stageRate p t old new r).standing = r.standing ∧
      (stageRate p t old new r).identity = r.identity := by
  unfold stageRate
  simp only
  split
  · exact ⟨rfl, rfl, rfl⟩
  · exact ⟨rfl, rfl, rfl⟩

/-- A window and a fill in their ranges on a record that has a last reading time. -/
theorem StageLaw.smoothed {r : BinRecord} (h : StageLaw r) {w : List Nat} {f : Nat}
    (hw : w.length ≤ 3 ∧ ∀ g ∈ w, g ≤ 1000) (hne : w ≠ []) (hf : f ≤ 1000) (hl : r.lastReading ≠ none) :
    StageLaw { r with window := w, fill := some f } :=
  { h with
    fill := by rintro g ⟨⟩; exact hf
    window := hw
    measured := fun _ => ⟨hl, hne⟩ }

/-- Stages 7 and 8 (R65 to R68). -/
theorem stageSmoothing_stageLaw {p : Profile} (hp : ProfileLaw p) {r : BinRecord} (h : StageLaw r) {raw old : Nat}
    (hr : raw ≤ 1000) (ho : r.fill = some old) (t : Nat) : StageLaw (stageSmoothing p t raw old r) := by
  have hw := pushWindow_law hr h.window.2
  have hne : pushWindow raw r.window ≠ [] := by simp [pushWindow]
  have hf : blend old (candidate p.median (pushWindow raw r.window)) p.fillWeight ≤ 1000 :=
    blend_le (h.fill old ho) (candidate_le hw.2) hp.fillWeight.2
  exact stageRate_stageLaw hp (h.smoothed hw hne hf (h.measured (by simp [ho])).1) t old _

theorem stageSmoothing_keeps (p : Profile) (t raw old : Nat) (r : BinRecord) :
    (stageSmoothing p t raw old r).fill ≠ none ∧ (stageSmoothing p t raw old r).standing = r.standing ∧
      (stageSmoothing p t raw old r).identity = r.identity := by
  unfold stageSmoothing
  exact ⟨by rw [(stageRate_keeps ..).1]; nofun, (stageRate_keeps ..).2⟩

/-- Stages 5 to 8: one of them measures the fill (R63 to R68). -/
theorem stageMeasure_stageLaw {p : Profile} (hp : ProfileLaw p) {r : BinRecord} (h : StageLaw r) {raw : Nat}
    (hr : raw ≤ 1000) (t : Nat) : StageLaw (stageMeasure p t raw r).1 := by
  have first : StageLaw (stageFirst raw t r) := { restartEstimate_stageLaw h hr t with }
  unfold stageMeasure
  split
  next => exact first
  next old ho =>
    split
    · exact first
    · split
      · exact { restartEstimate_stageLaw h hr t with }
      · exact stageSmoothing_stageLaw hp h hr ho t

theorem stageMeasure_keeps (p : Profile) (t raw : Nat) (r : BinRecord) :
    (stageMeasure p t raw r).1.fill ≠ none ∧ (stageMeasure p t raw r).1.standing = r.standing ∧
      (stageMeasure p t raw r).1.identity = r.identity := by
  have first : (stageFirst raw t r).fill ≠ none ∧ (stageFirst raw t r).standing = r.standing ∧
      (stageFirst raw t r).identity = r.identity := ⟨nofun, rfl, rfl⟩
  unfold stageMeasure
  split
  next => exact first
  next =>
    split
    · exact first
    · split
      · exact ⟨nofun, rfl, rfl⟩
      · exact stageSmoothing_keeps ..

/-! ## The estimation -/

/-- Stage 11 writes the last reported fill only (R70). -/
theorem stageReport_eq (p : Profile) (collected : Bool) (r : BinRecord) :
    ∃ last, (stageReport p collected r).1 = { r with lastReported := last } := by
  unfold stageReport
  split
  · exact ⟨_, rfl⟩
  · exact ⟨r.lastReported, rfl⟩

/-- Stages 4 to 11 of a non-blind reading keep the stages' law (R62 to R70). -/
theorem stageNonBlind_stageLaw {p : Profile} (hp : ProfileLaw p) {r : BinRecord} (h : StageLaw r)
    (t distance uptime horizon : Nat) : StageLaw (stageNonBlind p t distance uptime horizon r).1 := by
  have law := reproject_stageLaw
    (stageMeasure_stageLaw hp (judgeCondition_stageLaw h .overfull (distance < p.fullDepth)) (rawFill_le p distance) t)
    p.threshold t uptime horizon
  unfold stageNonBlind
  simp only
  obtain ⟨last, hl⟩ := stageReport_eq p _ _
  rw [hl]
  exact { law with }

theorem stageNonBlind_keeps (p : Profile) (t distance uptime horizon : Nat) (r : BinRecord) :
    (stageNonBlind p t distance uptime horizon r).1.fill ≠ none ∧
      (stageNonBlind p t distance uptime horizon r).1.standing = r.standing ∧
      (stageNonBlind p t distance uptime horizon r).1.identity = r.identity := by
  unfold stageNonBlind
  simp only
  obtain ⟨last, hl⟩ := stageReport_eq p _ _
  rw [hl]
  exact stageMeasure_keeps p t (rawFill p distance) (judgeCondition .overfull (distance < p.fullDepth) r).1

theorem stageHeard_stageLaw (p : Profile) (t : Nat) (e : IntakeEntry) {r : BinRecord} (h : StageLaw r) :
    StageLaw (stageHeard p t e r) :=
  { h with latched := latched_put_false .lapse h.latched }

/-- Without a non-blind reading the first stage sets the state by the fill (R58). -/
theorem stageHeard_recordLaw (p : Profile) (t : Nat) {e : IntakeEntry} {r : BinRecord} (h : RecordLaw r)
    (he : nonBlind e.content = false) : RecordLaw (stageHeard p t e r) :=
  (stageHeard_stageLaw p t e h.stageLaw).recordLaw_of_fill h.unmeasured (by simp [stageHeard, he])

theorem stageFlags_stageLaw {r : BinRecord} (h : StageLaw r) (lid tilt : Bool) (battery : Nat) :
    StageLaw (stageFlags lid tilt battery r).1 := by
  have charged : StageLaw { r with battery := some (min battery 100) } := { h with }
  exact judgeCondition_stageLaw (judgeCondition_stageLaw charged .lid lid) .tilt tilt

/-- The flags of a reading leave fill, rate, state and OVERFULL (R59). -/
theorem stageFlags_recordLaw {r : BinRecord} (h : RecordLaw r) (lid tilt : Bool) (battery : Nat) :
    RecordLaw (stageFlags lid tilt battery r).1 :=
  { stageFlags_stageLaw h.stageLaw lid tilt battery with
    unmeasured := h.unmeasured
    active := h.active
    enrolled := h.enrolled
    barred := h.barred }

/-- An estimation keeps the record law (R56 to R70). -/
theorem estimateRecord_recordLaw {p : Profile} (hp : ProfileLaw p) (e : IntakeEntry) (uptime horizon : Nat)
    {r : BinRecord} (h : RecordLaw r) : RecordLaw (estimateRecord p e uptime horizon r).1 := by
  unfold estimateRecord
  simp only
  split
  next hc => exact stageHeard_recordLaw p _ h (by rw [hc]; rfl)
  next distance lid tilt battery hc =>
    split
    next hd => exact stageFlags_recordLaw (stageHeard_recordLaw p _ h (by rw [hc, hd]; rfl)) lid tilt battery
    next hd =>
      have flagged := stageFlags_stageLaw (stageHeard_stageLaw p (estimationTime r e) e h.stageLaw) lid tilt battery
      obtain ⟨hf, hs, -⟩ := stageNonBlind_keeps p (estimationTime r e) distance uptime horizon
        (stageFlags lid tilt battery (stageHeard p (estimationTime r e) e r)).1
      have active : (stageHeard p (estimationTime r e) e r).standing = .active := by
        simp [stageHeard, hc, nonBlind, hd]
      exact (stageNonBlind_stageLaw hp flagged ..).recordLaw_of_active hf (hs.trans active)

theorem stageHeard_not_barred (p : Profile) (t : Nat) (e : IntakeEntry) (r : BinRecord) :
    (stageHeard p t e r).standing ≠ .barred := by
  unfold stageHeard
  simp only
  split
  · nofun
  · nofun

theorem estimateRecord_keeps (p : Profile) (e : IntakeEntry) (uptime horizon : Nat) (r : BinRecord) :
    (estimateRecord p e uptime horizon r).1.identity = r.identity ∧
      (estimateRecord p e uptime horizon r).1.standing ≠ .barred := by
  have heard := stageHeard_not_barred p (estimationTime r e) e r
  unfold estimateRecord
  simp only
  split
  next => exact ⟨rfl, heard⟩
  next distance lid tilt battery _ =>
    split
    next => exact ⟨rfl, heard⟩
    next =>
      obtain ⟨-, hs, hi⟩ := stageNonBlind_keeps p (estimationTime r e) distance uptime horizon
        (stageFlags lid tilt battery (stageHeard p (estimationTime r e) e r)).1
      exact ⟨hi, fun hb => heard (hs.symm.trans hb)⟩

/-! ## The edits of records -/

variable (s : State) (r : BinRecord)

theorem estimateRecord_edit (e : IntakeEntry) (uptime horizon : Nat) :
    Edit s r (estimateRecord (s.profile r.profile) e uptime horizon r).1 where
  identity := (estimateRecord_keeps ..).1
  barred hb := absurd hb (estimateRecord_keeps ..).2
  law hp h := estimateRecord_recordLaw (hp r.profile) e uptime horizon h

/-- The sequence window's counts and expectation (R36, R39). -/
theorem sequence_edit (expectation : Option (BitVec 4)) (missed duplicates : Nat) :
    Edit s r { r with expectation := expectation, missed := missed, duplicates := duplicates } where
  identity := rfl
  barred := id
  law _ h := { h with }

theorem expireRecord_edit : Edit s r (expireRecord r).1 where
  identity := rfl
  barred := nofun
  law _ h :=
    { h with
      active := nofun
      enrolled := nofun
      barred := nofun
      latched := fun a ha => by
        simp only [expireRecord, AlarmSet.has_put] at ha ⊢
        split
        · rfl
        · rw [if_neg ‹_›] at ha
          exact h.latched a ha }

/-- A visited record stays as it is, or one that has a band moves to another (R81). -/
theorem walkRecord_cases (uptime due : Nat) :
    (walkRecord uptime due r).1 = r ∨
      r.band ≠ .none ∧
        ∃ band projected, (walkRecord uptime due r).1 = { r with band := band, projected := projected } := by
  unfold walkRecord
  split
  next => exact .inl rfl
  next => exact .inl rfl
  next hb =>
    split
    · exact .inr ⟨by simp [hb], _, _, rfl⟩
    · exact .inl rfl
  next hb =>
    split
    · exact .inr ⟨by simp [hb], _, _, rfl⟩
    · exact .inr ⟨by simp [hb], _, r.projected, rfl⟩

theorem Edit.refl : Edit s r r := ⟨rfl, id, fun _ h => h⟩

theorem walkRecord_edit (uptime due : Nat) : Edit s r (walkRecord uptime due r).1 := by
  obtain e | ⟨hb, band, projected, e⟩ := walkRecord_cases r uptime due
  · rw [e]; exact .refl s r
  · rw [e]
    exact ⟨rfl, id, fun _ h => { h with listed := fun _ => h.listed hb, barred := fun e => absurd (h.barred e) hb }⟩

theorem clearLatches_edit (mask : AlarmSet) :
    Edit s r { r with latches := clearLatches mask r.conditions r.latches } where
  identity := rfl
  barred := id
  law _ h := { h with latched := fun a ha => by simp [clearLatches_has, h.latched a ha, ha] }

theorem amendRecord_edit (profile : Option (Fin 16)) (district : Option (Fin 32)) (ackMode : Option AckMode) :
    Edit s r (amendRecord s profile district ackMode r).1 := by
  by_cases hp : ∀ p ∈ profile, p = r.profile
  · rw [amendRecord_profile_stays s district ackMode hp]
    exact ⟨rfl, id, fun _ h => { h with }⟩
  · obtain ⟨p, rfl, hne⟩ : ∃ p, profile = some p ∧ p ≠ r.profile := by simpa using hp
    by_cases hb : r.standing = .barred
    · rw [amendRecord_of_barred s district ackMode hne hb]
      exact ⟨rfl, id, fun _ h => { h with }⟩
    · rw [amendRecord_reprojects s district ackMode hne hb]
      refine ⟨rfl, id, fun _ h => reproject_recordLaw ?_ ?_ ..⟩
      · exact { h with }
      · exact hb

theorem unbarRecord_edit (parameters : Profile) (uptime horizon : Nat) (hb : r.standing = .barred) :
    Edit s r (unbarRecord parameters uptime horizon r).1 where
  identity := rfl
  barred _ := hb
  law _ h := by
    have revived : StageLaw
        { r with
          standing := if r.fill.isSome then .active else .enrolled
          lastHeard := uptime
          conditions := r.conditions.put .lapse false
          deadline := silenceDeadline uptime parameters } :=
      { h with latched := latched_put_false .lapse h.latched }
    exact (applyBand_stageLaw revived uptime horizon).recordLaw_of_fill h.unmeasured rfl

/-! ## Every kind of change keeps the laws of records and profiles -/

variable {s r}

theorem newRecord_recordLaw (id : Identity) (profile : Fin 16) (district : Fin 32) (ackMode : AckMode)
    (expectation : Option (BitVec 4)) (uptime : Nat) (p : Profile) :
    RecordLaw (newRecord id profile district ackMode expectation uptime p) where
  fill := nofun
  window := ⟨Nat.zero_le _, nofun⟩
  rate := Nat.zero_le _
  hours := le_refl _
  measured h := absurd rfl h
  unmeasured _ := ⟨rfl, rfl⟩
  due := iff_of_true rfl rfl
  active := nofun
  enrolled _ := rfl
  listed h := absurd rfl h
  barred := nofun
  latched a h := by cases a <;> cases h

theorem mem_putMoves (moves : List Move) {p : Nat × BinRecord}
    (hp : p ∈ (moves.foldl (fun t m => t.putBin m.1 m.2.1) s).bins) : (∃ m ∈ moves, p.2 = m.2.1) ∨ p ∈ s.bins := by
  induction moves generalizing s with
  | nil => exact .inr hp
  | cons m moves ih =>
    obtain ⟨m', hm, e⟩ | hp := ih hp
    · exact .inl ⟨m', List.mem_cons_of_mem _ hm, e⟩
    · obtain rfl | hp := mem_tablePut hp
      · exact .inl ⟨m, List.mem_cons_self, rfl⟩
      · exact .inr hp

theorem EstimateLaw.nothingNew {t : State} (h : EstimateLaw s) (k : NothingNew s t) : EstimateLaw t where
  profiles i := by rw [State.profile, k.profiles]; exact h.profiles i
  records p hp := by
    have hm : (p.1, noOwed p.2) ∈ noOwedTable s.bins := k.records ▸ List.mem_map_of_mem hp
    obtain ⟨q, hq, e⟩ := List.mem_map.mp hm
    have law : RecordLaw (noOwed q.2) := { h.records q hq with }
    have same : noOwed q.2 = noOwed p.2 := congrArg Prod.snd e
    rw [same] at law
    exact { law with }

theorem EstimateLaw.edits (h : EstimateLaw s) (moves : List Move)
    (hm : ∀ m ∈ moves, ∃ r, (m.1, r) ∈ s.bins ∧ Edit s r m.2.1) :
    EstimateLaw (moves.foldl (fun t m => t.putBin m.1 m.2.1) s) where
  profiles i := by rw [State.profile, (putMoves_frame moves s).1]; exact h.profiles i
  records p hp := by
    obtain ⟨m, hin, e⟩ | hp := mem_putMoves moves hp
    · obtain ⟨r, hr, edit⟩ := hm m hin
      exact e ▸ edit.law h.profiles (h.records _ hr)
    · exact h.records p hp

theorem EstimateLaw.stores (h : EstimateLaw s) (i : Fin 16) {p : Profile} (hp : ProfileLaw p) :
    EstimateLaw (storeProfile i p s) where
  profiles j := by
    rw [State.profile, (storeProfile_frame i p s).1, Fin.getElem_fin, Vector.getElem_set]
    split
    · exact hp
    · exact h.profiles j
  records q hq := by
    obtain ⟨f, hb, hf⟩ := storeProfile_bins i p s
    rw [hb] at hq
    obtain ⟨q', hq', rfl⟩ := List.mem_map.mp hq
    have law := h.records q' hq'
    obtain e | e := hf q'
    · exact e ▸ law
    · have marked : RecordLaw { q'.2 with rebasePending := true } := { law with }
      exact e ▸ marked

/-- A record put into the table leaves the law to that record. -/
theorem EstimateLaw.put {t : State} (h : EstimateLaw s) {slot : Nat} (hb : t.bins = tablePut s.bins slot r)
    (hp : t.profiles = s.profiles) (hr : RecordLaw r) : EstimateLaw t where
  profiles i := by rw [State.profile, hp]; exact h.profiles i
  records p hp := by
    rw [hb] at hp
    obtain rfl | hp := mem_tablePut hp
    · exact hr
    · exact h.records p hp

theorem EstimateLaw.change {t : State} (h : EstimateLaw s) (k : Change s t) : EstimateLaw t := by
  cases k with
  | nothingNew k => exact h.nothingNew k
  | edits moves hm => exact h.edits moves hm
  | enrols => exact h.put rfl rfl (newRecord_recordLaw ..)
  | retires slot => exact ⟨h.profiles, fun p hp => h.records p (mem_tableRemove.mp hp).1⟩
  | bars hm =>
    have law := h.records _ hm
    exact h.put rfl rfl
      { law with active := nofun, enrolled := nofun, listed := fun hn => absurd rfl hn, barred := fun _ => rfl }
  | admits => exact ⟨h.profiles, h.records⟩
  | hears => exact ⟨h.profiles, h.records⟩
  | stores i hp => exact h.stores i hp
  | restarts k => exact estimateLaw_reset.nothingNew k

theorem EstimateLaw.changes {t : State} (h : EstimateLaw s) (k : Changes s t) : EstimateLaw t := by
  induction k with
  | refl => exact h
  | tail _ k ih => exact ih.change k

end Sys2Proof.Machine
end

section
/-! PROOFS. Every step is a chain of the kinds of change, row by row, so it keeps the laws. -/

namespace Sys2Proof.Machine

/-! ## Executions of held commands -/

theorem answerHeld_nothingNew (s : State) (r : Reply) : NothingNew s (s.answerHeld r) := .of_eq rfl rfl rfl rfl

theorem carryOut_changes (type : Byte) (lengthOk : Nat → Bool) {act : List Byte → State → State × Reply} {s : State}
    (h : ∀ body, Changes s (act body s).1) : Changes s (carryOut type lengthOk act s) := by
  obtain e | e | ⟨body, -, -, e⟩ := carryOut_cases type lengthOk act s
  · rw [e]
  · rw [e]; exact (answerHeld_nothingNew s _).changes
  · rw [e]; exact (h body).tail (.nothingNew (answerHeld_nothingNew _ _))

theorem onRecord_changes {body : List Byte} {s : State} {act : Nat → BinRecord → State × Reply}
    (h : ∀ slot r, (slot, r) ∈ s.bins → Changes s (act slot r).1) : Changes s (onRecord body s act).1 := by
  obtain ⟨st, e⟩ | ⟨slot, r, hf, e⟩ := onRecord_cases body s act
  · rw [e]
  · rw [e]; exact h slot r (State.mem_of_find hf).1

theorem settleAll_nothingNew (offers : List Offer) (s : State) : NothingNew s (settleAll offers s) :=
  (settleAll_spec offers s).1.nothingNew

theorem settle_nothingNew (s : State) (o : Offer) : NothingNew s (settle s o) := (settle_spec s o).1.nothingNew

theorem replaceRecord_changes {s t : State} (h : Changes s t) {slot : Nat} {r : BinRecord}
    {out : BinRecord × List Raised} (hm : (slot, r) ∈ t.bins) (edit : Edit t r out.1) :
    Changes s (replaceRecord slot out t) :=
  (h.trans (edit.changes hm)).tail (.nothingNew (settleAll_nothingNew _ _))

/-- Moves whose records are edits, then their offers settled (R82, R95). -/
theorem applyMoves_changes {s : State} (time : Nat) (moves : List Move)
    (h : ∀ m ∈ moves, ∃ r, (m.1, r) ∈ s.bins ∧ Edit s r m.2.1) : Changes s (applyMoves time moves s) :=
  (Relation.ReflTransGen.single (.edits moves h)).tail (.nothingNew (settleAll_nothingNew _ _))

/-! ## The Bin Table's commands -/

theorem enrolAct_changes (body : List Byte) (s : State) : Changes s (enrolAct body s).1 := by
  rw [enrolAct]
  split
  next => exact .refl
  next hv =>
    split
    next p d m _ _ _ =>
      split
      next => exact .refl
      next hf =>
        split
        next => exact .refl
        next slot hl => exact .single (.enrols p d m (by simpa using hv) (by simpa using hf) hl)
    next => exact .refl

theorem amendAct_changes (body : List Byte) (s : State) : Changes s (amendAct body s).1 :=
  onRecord_changes fun slot r hm => by
    simp only
    split
    · exact replaceRecord_changes .refl hm (amendRecord_edit s r _ _ _)
    · exact .refl

theorem retireAct_changes (body : List Byte) (s : State) : Changes s (retireAct body s).1 :=
  onRecord_changes fun slot _ _ => .single (.retires slot)

theorem barAct_changes (body : List Byte) (s : State) : Changes s (barAct body s).1 :=
  onRecord_changes fun slot r hm => by
    split
    · exact .refl
    · exact .single (.bars hm)

theorem unbarAct_changes (body : List Byte) (s : State) : Changes s (unbarAct body s).1 :=
  onRecord_changes fun slot r hm => by
    split
    next hb => exact replaceRecord_changes .refl hm (unbarRecord_edit s r _ _ _ hb)
    next => exact .refl

theorem queryAct_changes (body : List Byte) (s : State) : Changes s (queryAct body s).1 :=
  onRecord_changes fun _ _ _ => .refl

theorem clearAlarmsAct_changes (body : List Byte) (s : State) : Changes s (clearAlarmsAct body s).1 := by
  rw [clearAlarmsAct]
  split
  next => exact .refl
  next =>
    split
    next => exact .refl
    next =>
      split
      next => exact .refl
      next slot r hf => exact (clearLatches_edit s r _).changes (State.mem_of_find hf).1

/-! ## Captures -/

/-- A good frame has a valid identity: the last of the six checks (R29, R30). -/
theorem checkFrame_good_valid {limit : Nat} {frame : List Byte} {g : GoodFrame} (h : checkFrame limit frame = .good g) :
    validIdentity g.identity = true := by
  unfold checkFrame at h
  repeat (split at h; · cases h)
  cases h
  simpa using ‹¬(!validIdentity (identityAt frame 0)) = true›

theorem countIntake_nothingNew (s : State) (f : IntakeCounters → IntakeCounters) : NothingNew s (s.countIntake f) :=
  .of_eq rfl rfl rfl rfl

theorem makeAnswer_nothingNew (src : Source) (r : BinRecord) (q : BitVec 4) (v : Verdict) (s : State) :
    NothingNew s (makeAnswer src r q v s) := by
  obtain ⟨a, k, e⟩ := makeAnswer_frame src r q v s
  rw [e]
  exact .of_eq rfl rfl rfl rfl

theorem hearStranger_changes {h : Hearing} {s : State} (hv : validIdentity h.identity = true)
    (hf : s.find h.identity = none) : Changes s (hearStranger h s) := by
  unfold hearStranger
  split
  next =>
    have ids : (s.strangers.entries.map fun e =>
        if e.identity = h.identity then hearAgain s.clock.uptime h e else e).map StrangerEntry.identity =
        s.strangers.entries.map StrangerEntry.identity := by
      rw [List.map_map]
      refine List.map_congr_left fun e _ => ?_
      rw [Function.comp_apply]
      split
      · rfl
      · rfl
    exact NothingNew.changes ⟨rfl, rfl, by rw [State.setStrangers_strangers, ids], .refl _⟩
  next hs =>
    split
    next =>
      exact (Relation.ReflTransGen.single (.hears hv hf (by simpa using hs))).tail
        (.nothingNew (settle_nothingNew _ _))
    next => exact (countIntake_nothingNew s _).changes

/-- A duplicate or a stale reading: a count in the record, a counter and an answer (R36). -/
theorem countedRepeat_changes {s : State} {slot : Nat} {r : BinRecord} (hm : (slot, r) ∈ s.bins) (n : Nat)
    (f : IntakeCounters → IntakeCounters) (src : Source) (q : BitVec 4) (v : Verdict) :
    Changes s (makeAnswer src r q v ((s.putBin slot { r with duplicates := n }).countIntake f)) :=
  ((sequence_edit s r r.expectation r.missed n).changes hm).tail
    (.nothingNew ((countIntake_nothingNew _ _).trans (makeAnswer_nothingNew ..)))

theorem takeAccepted_changes (cap : Capture) (g : GoodFrame) (gap : Nat) {slot : Nat} {r : BinRecord} {s : State}
    (hm : (slot, r) ∈ s.bins) (hb : r.standing ≠ .barred) : Changes s (takeAccepted cap g gap slot r s) := by
  have edited := (sequence_edit s r (some (g.seq + 1#4)) (raise16 r.missed gap) r.duplicates).changes hm
  refine (edited.tail ?_).tail (.nothingNew (makeAnswer_nothingNew ..))
  exact .admits rfl (mem_of_tableGet (tableGet_tablePut_same s.bins slot _)) hb

theorem takeHeld_changes (cap : Capture) (g : GoodFrame) (r : BinRecord) (s : State) :
    Changes s (takeHeld cap g r s) :=
  ((countIntake_nothingNew s _).trans (makeAnswer_nothingNew ..)).changes

theorem takeOverrun_changes (s : State) : Changes s (takeOverrun s) := (countIntake_nothingNew s _).changes

theorem admitCapture_changes (cap : Capture) (g : GoodFrame) (gap : Nat) {slot : Nat} {r : BinRecord} {s : State}
    (hm : (slot, r) ∈ s.bins) (hb : r.standing ≠ .barred) : Changes s (admitCapture cap g gap slot r s).1 := by
  have accepted := takeAccepted_changes cap g gap hm hb
  unfold admitCapture
  split
  next =>
    split
    · exact takeHeld_changes cap g r s
    · exact accepted
  next =>
    split
    · exact takeOverrun_changes s
    · exact accepted
  next =>
    split
    · exact takeHeld_changes cap g r s
    · exact accepted

theorem classify_changes (cap : Capture) (g : GoodFrame) {slot : Nat} {r : BinRecord} {s : State}
    (hm : (slot, r) ∈ s.bins) : Changes s (classify cap g slot r s).1 := by
  unfold classify
  split
  next => exact ((countIntake_nothingNew s _).trans (makeAnswer_nothingNew ..)).changes
  next hb =>
    split
    · exact countedRepeat_changes hm ..
    · exact countedRepeat_changes hm ..
    · exact admitCapture_changes cap g _ hm hb

theorem takeMalformed_nothingNew (cap : Capture) (why : Malformed) (s : State) :
    NothingNew s (takeMalformed cap why s) := by
  unfold takeMalformed
  exact (countIntake_nothingNew s _).trans (settle_nothingNew _ _)

theorem takeStranger_changes (cap : Capture) {g : GoodFrame} {s : State} (hv : validIdentity g.identity = true)
    (hf : s.find g.identity = none) : Changes s (takeStranger cap g s) := by
  unfold takeStranger
  exact .trans (countIntake_nothingNew s _).changes (hearStranger_changes hv hf)

theorem takeCapture_changes (cap : Capture) (s : State) : Changes s (takeCapture cap s).1 := by
  unfold takeCapture
  split
  next why _ =>
    dsimp only
    exact (takeMalformed_nothingNew cap why s).changes
  next g hg =>
    split
    next hf => exact takeStranger_changes cap (checkFrame_good_valid hg) hf
    next slot r hf => exact classify_changes cap g (State.mem_of_find hf).1

theorem injectAct_changes (body : List Byte) (s : State) : Changes s (injectAct body s).1 :=
  (takeCapture_changes _ _).head (.nothingNew (countIntake_nothingNew s _))

theorem setFieldHeld_nothingNew (s : State) (held : List Byte) : NothingNew s (s.setFieldHeld held) :=
  .of_eq rfl rfl rfl rfl

theorem fieldFound_changes (f : Finding) (s : State) : Changes s (fieldFound f s) := by
  cases f with
  | collecting held => exact (setFieldHeld_nothingNew s held).changes
  | arrived type tag body rest =>
    refine .head (.nothingNew (setFieldHeld_nothingNew s rest)) ?_
    change Changes _ (fieldArrival type body (s.setFieldHeld rest))
    unfold fieldArrival
    split
    · exact (takeCapture_changes _ _).head (.nothingNew (countIntake_nothingNew _ _))
    · exact NothingNew.changes (.of_eq rfl rfl rfl rfl)
  | bad rest => exact NothingNew.changes (.of_eq rfl rfl rfl rfl)
  | overlong rest => exact NothingNew.changes (.of_eq rfl rfl rfl rfl)

theorem plannerFound_nothingNew (f : Finding) (s : State) : NothingNew s (plannerFound f s) := by
  cases f with
  | collecting held => exact .of_eq rfl rfl rfl rfl
  | arrived type tag body rest =>
    change NothingNew s (commandArrives type tag body (s.setPlannerHeld rest))
    unfold commandArrives
    split
    · exact .of_eq rfl rfl rfl rfl
    · exact .of_eq rfl rfl rfl rfl
  | bad rest => exact .of_eq rfl rfl rfl rfl
  | overlong rest => exact .of_eq rfl rfl rfl rfl

theorem receive_changes (l : Link) (bytes : List Byte) (s : State) : Changes s (receive l bytes s) := by
  unfold receive
  split
  · exact .refl
  · cases l with
    | planner => exact (plannerFound_nothingNew _ s).changes
    | field => exact fieldFound_changes _ s

/-! ## Profiles and estimations -/

/-- The parameters PROFILE-SET stores are in their ranges (R49, R51). -/
theorem clampProfile_law {p : Profile} (h : ¬(clampProfile p).emptyDepth < (clampProfile p).fullDepth + 50) :
    ProfileLaw (clampProfile p) := by
  have hc (lo hi n : Nat) (hl : lo ≤ hi) : lo ≤ clamp lo hi n ∧ clamp lo hi n ≤ hi := by
    unfold clamp
    omega
  exact ⟨hc _ _ _ (by decide), by omega, hc _ _ _ (by decide), hc _ _ _ (by decide), hc _ _ _ (by decide),
    hc _ _ _ (by decide), hc _ _ _ (by decide), hc _ _ _ (by decide)⟩

theorem profileSetAct_changes (body : List Byte) (s : State) : Changes s (profileSetAct body s).1 := by
  unfold profileSetAct
  split
  next i median _ _ =>
    simp only
    split
    next => exact .refl
    next h => exact .single (.stores i (clampProfile_law h))
  next => exact .refl

theorem profileGetAct_changes (body : List Byte) (s : State) : Changes s (profileGetAct body s).1 := by
  unfold profileGetAct
  split
  · exact .refl
  · exact .refl

theorem estimation_changes (s : State) : Changes s (estimation s) := by
  unfold estimation
  split
  next => exact .refl
  next e rest hq =>
    have taken : NothingNew s (s.setIntake { s.intake with queue := rest }) :=
      ⟨rfl, rfl, .refl _, by rw [hq]; exact List.sublist_cons_self e rest⟩
    simp only
    split
    next => exact taken.changes
    next r hr =>
      split
      next => exact taken.changes
      next =>
        exact replaceRecord_changes (taken.trans (countIntake_nothingNew _ _)).changes (mem_of_tableGet hr)
          (estimateRecord_edit _ r e _ _)

/-! ## The seconds events -/

theorem setClock_nothingNew (s : State) (x : Clock) : NothingNew s (s.setClock x) := .of_eq rfl rfl rfl rfl

theorem secondsWalk_changes (s : State) : Changes s (secondsWalk s) := by
  refine (applyMoves_changes _ _ fun m hm => ?_).head (.nothingNew (setClock_nothingNew s _))
  obtain ⟨k, -, hk⟩ := List.mem_filterMap.mp hm
  obtain ⟨r, hr, rfl⟩ := Option.map_eq_some_iff.mp hk
  exact ⟨r, mem_of_tableGet hr, walkRecord_edit _ r _ _⟩

theorem silenceCheck_changes (s : State) : Changes s (silenceCheck s) := by
  refine (applyMoves_changes _ _ fun m hm => ?_).head (.nothingNew (setClock_nothingNew s _))
  obtain ⟨k, -, hk⟩ := List.mem_filterMap.mp hm
  obtain ⟨r, hr, rfl⟩ := Option.map_eq_some_iff.mp hk
  exact ⟨r, mem_of_tableGet hr, expireRecord_edit _ r⟩

theorem strangerAging_nothingNew (s : State) : NothingNew s (strangerAging s) :=
  ⟨rfl, rfl, List.filter_sublist.map _, .refl _⟩

theorem oscillate_nothingNew (s : State) : NothingNew s (oscillate s) := by
  unfold oscillate
  split
  · exact setClock_nothingNew s _
  · exact setClock_nothingNew s _

/-! ## Strangers, lists and the items of the Planner Link -/

theorem dismissAct_nothingNew (body : List Byte) (s : State) : NothingNew s (dismissAct body s).1 := by
  rw [dismissAct]
  split
  · exact .refl s
  · split
    · exact .refl s
    · exact ⟨rfl, rfl, List.filter_sublist.map _, .refl _⟩

theorem listAct_nothingNew (body : List Byte) (s : State) : NothingNew s (listAct body s).1 := by
  rw [listAct]
  split
  · exact .refl s
  · exact .refl s

theorem storeItems_nothingNew (i : ConfigItems) (s : State) : NothingNew s (storeItems i s) := .of_eq rfl rfl rfl rfl

theorem configAct_nothingNew (body : List Byte) (s : State) : NothingNew s (configAct body s).1 := by
  rw [configAct]
  split
  · exact .refl s
  · exact storeItems_nothingNew _ s

theorem countersAct_nothingNew (body : List Byte) (s : State) : NothingNew s (countersAct body s).1 := by
  unfold countersAct
  split
  · exact .refl s
  · simp only
    split
    · exact .of_eq rfl rfl rfl rfl
    · exact .refl s

theorem refuseUnknown_nothingNew (s : State) : NothingNew s (refuseUnknown s) := by
  unfold refuseUnknown
  split
  · exact .refl s
  · split
    · exact .refl s
    · exact answerHeld_nothingNew s _

/-! ## The sweep and the channels -/

theorem queueCopy_nothingNew (o : Offer) (c : Fin 8) (s : State) : NothingNew s (queueCopy o c s) :=
  (offersOnly_queueCopy o c s).nothingNew

theorem setSweep_nothingNew (s : State) (x : Sweep) : NothingNew s (s.setSweep x) := .of_eq rfl rfl rfl rfl

theorem judgeSweepEnd_nothingNew (s : State) : NothingNew s (judgeSweepEnd s) := by
  obtain ⟨-, e⟩ | ⟨-, e⟩ := judgeSweepEnd_cases s
  · rw [e]; exact (queueCopy_nothingNew ..).trans (setSweep_nothingNew _ _)
  · rw [e]; exact .refl s

theorem enterClosing_nothingNew (why : PendingEnd) (s : State) : NothingNew s (enterClosing why s) :=
  (setSweep_nothingNew s _).trans (judgeSweepEnd_nothingNew _)

theorem notifySweep_nothingNew (s : State) : NothingNew s (notifySweep s) := by
  unfold notifySweep
  split
  · exact setSweep_nothingNew s _
  · exact judgeSweepEnd_nothingNew s
  · exact .refl s
  · exact .refl s

theorem sweepAct_nothingNew (body : List Byte) (s : State) : NothingNew s (sweepAct body s).1 := by
  unfold sweepAct
  split
  · exact .refl s
  · split
    · split
      · exact .refl s
      · split
        · exact setSweep_nothingNew s _
        · exact .refl s
    · exact .refl s

theorem sweepAbortAct_nothingNew (body : List Byte) (s : State) : NothingNew s (sweepAbortAct body s).1 := by
  unfold sweepAbortAct
  split
  · dsimp only
    exact enterClosing_nothingNew .aborted s
  · dsimp only
    exact enterClosing_nothingNew .aborted s
  · exact .refl s
  · exact .refl s

theorem passSlot_nothingNew (s : State) : NothingNew s (passSlot s) := by
  unfold passSlot
  simp only
  split
  · exact (setSweep_nothingNew s _).trans (enterClosing_nothingNew _ _)
  · exact setSweep_nothingNew s _

theorem visit_nothingNew (s : State) : NothingNew s (visit s) := by
  unfold visit
  split
  · exact passSlot_nothingNew s
  · split
    · exact ((queueCopy_nothingNew ..).trans (setSweep_nothingNew _ _)).trans (passSlot_nothingNew _)
    · exact setSweep_nothingNew s _

theorem disableChannel_nothingNew (c : Fin 8) (s : State) : NothingNew s (disableChannel c s) := by
  have flushed := (offersOnly_flush c s).nothingNew
  unfold disableChannel
  simp only
  split
  · exact flushed.trans (setSweep_nothingNew _ _)
  · exact flushed.trans (notifySweep_nothingNew _)

theorem putChannel_nothingNew (c : Fin 8) (x : Channel) (s : State) : NothingNew s (s.putChannel c x) :=
  .of_eq rfl rfl rfl rfl

theorem channelSetAct_nothingNew (body : List Byte) (s : State) : NothingNew s (channelSetAct body s).1 := by
  unfold channelSetAct
  split
  · split
    · exact .refl s
    · simp only [setChannel]
      split
      · exact (putChannel_nothingNew ..).trans (disableChannel_nothingNew _ _)
      · exact putChannel_nothingNew ..
  · exact .refl s

theorem creditAct_nothingNew (body : List Byte) (s : State) : NothingNew s (creditAct body s).1 := by
  unfold creditAct
  split
  · exact .refl s
  · exact putChannel_nothingNew ..

/-! ## Begins, completions and resets -/

theorem setLink_nothingNew (s : State) (x : LinkState) : NothingNew s (s.setLink x) := .of_eq rfl rfl rfl rfl

theorem beginParty_nothingNew (s : State) : NothingNew s (beginParty s) := by
  unfold beginParty
  split
  · exact setLink_nothingNew s _
  · split
    · exact setLink_nothingNew s _
    · unfold beginChosen
      split
      · exact .refl s
      · split
        · exact .of_eq rfl rfl rfl rfl
        · exact .refl s

/-- The engine reset keeps records but for owed masks, and profiles, and empties the rest (R26). -/
theorem engineReset_nothingNew (cause : ResetCause) (s : State) : NothingNew s (engineReset cause s) where
  records := by
    have pool : (engineReset cause s).bins = _ := discardQueues_bins (fun c => (s.channel c).queue) allChannels s
    rw [pool]
    exact noOwedTable_map s.bins _ fun _ => rfl
  profiles := rfl
  strangers := List.nil_sublist _
  intake := List.nil_sublist _

theorem completion_nothingNew (s : State) : NothingNew s (completion s) := by
  unfold completion
  split
  · exact .refl s
  · rename_i p _ _
    cases p with
    | startNotice => exact setLink_nothingNew s _
    | reply =>
      change NothingNew s (completeReply s)
      unfold completeReply
      split
      · exact engineReset_nothingNew .command s
      · exact setLink_nothingNew s _
    | channel c =>
      exact ((putChannel_nothingNew ..).trans (setLink_nothingNew _ _)).trans (notifySweep_nothingNew _)

theorem answerBegin_nothingNew (s : State) : NothingNew s (answerBegin s) := by
  unfold answerBegin
  split
  next hq => exact ⟨rfl, rfl, .refl _, .refl _⟩
  next => exact .refl s

/-! ## Every row, every step -/

/-- An event taken only when it is due (log entry 2). -/
theorem ite_changes {s t : State} {due : Prop} [Decidable due] (h : Changes s t) :
    Changes s (if due then t else s) := by
  split
  · exact h
  · exact .refl

/-- Every row is a chain of changes. -/
theorem exec_changes (i : Instr) {s t : State} (h : exec i s = .next t) : Changes s t := by
  cases i with
  | capture bytes => cases h; exact receive_changes .field bytes s
  | unknownType bytes => cases h; exact receive_changes .field bytes s
  | framesBad l bytes => cases h; exact receive_changes l bytes s
  | framesOverlong l bytes => cases h; exact receive_changes l bytes s
  | commandArrival bytes => cases h; exact receive_changes .planner bytes s
  | enrol => cases h; exact carryOut_changes _ _ fun body => enrolAct_changes body s
  | amend => cases h; exact carryOut_changes _ _ fun body => amendAct_changes body s
  | retire => cases h; exact carryOut_changes _ _ fun body => retireAct_changes body s
  | bar => cases h; exact carryOut_changes _ _ fun body => barAct_changes body s
  | unbar => cases h; exact carryOut_changes _ _ fun body => unbarAct_changes body s
  | query => cases h; exact carryOut_changes _ _ fun body => queryAct_changes body s
  | inject => cases h; exact carryOut_changes _ _ fun body => injectAct_changes body s
  | profileSet => cases h; exact carryOut_changes _ _ fun body => profileSetAct_changes body s
  | profileGet => cases h; exact carryOut_changes _ _ fun body => profileGetAct_changes body s
  | list => cases h; exact carryOut_changes _ _ fun body => (listAct_nothingNew body s).changes
  | clearAlarms => cases h; exact carryOut_changes _ _ fun body => clearAlarmsAct_changes body s
  | strangers => cases h; exact carryOut_changes _ _ fun _ => .refl
  | dismiss => cases h; exact carryOut_changes _ _ fun body => (dismissAct_nothingNew body s).changes
  | channelSet => cases h; exact carryOut_changes _ _ fun body => (channelSetAct_nothingNew body s).changes
  | credit => cases h; exact carryOut_changes _ _ fun body => (creditAct_nothingNew body s).changes
  | sweep => cases h; exact carryOut_changes _ _ fun body => (sweepAct_nothingNew body s).changes
  | sweepAbort => cases h; exact carryOut_changes _ _ fun body => (sweepAbortAct_nothingNew body s).changes
  | setTime => cases h; exact carryOut_changes _ _ fun _ => (setClock_nothingNew s _).changes
  | status => cases h; exact carryOut_changes _ _ fun _ => .refl
  | config => cases h; exact carryOut_changes _ _ fun body => (configAct_nothingNew body s).changes
  | counters => cases h; exact carryOut_changes _ _ fun body => (countersAct_nothingNew body s).changes
  | restart => cases h; exact carryOut_changes _ _ fun _ => (setLink_nothingNew s _).changes
  | unknownCommand => cases h; exact (refuseUnknown_nothingNew s).changes
  | estimation => cases h; exact estimation_changes s
  | secondsEvent => cases h; exact (setClock_nothingNew s _).changes
  | secondsWalk => cases h; exact ite_changes (secondsWalk_changes s)
  | silenceCheck => cases h; exact ite_changes (silenceCheck_changes s)
  | strangerAging => cases h; exact ite_changes (strangerAging_nothingNew s).changes
  | transmissionBegin => cases h; exact ite_changes (beginParty_nothingNew s).changes
  | transmissionCompletion => cases h; exact (completion_nothingNew s).changes
  | answerTransmissionBegin => cases h; exact (answerBegin_nothingNew s).changes
  | answerTransmissionCompletion => cases h; exact NothingNew.changes (.of_eq rfl rfl rfl rfl)
  | sweepVisit => cases h; exact ite_changes (visit_nothingNew s).changes
  | sweepEndPlacement => cases h; exact ite_changes (judgeSweepEnd_nothingNew s).changes
  | resetNAssertion => cases h; exact ((engineReset_nothingNew .line s).trans (setLink_nothingNew _ _)).changes
  | resetNRelease => cases h; exact (setLink_nothingNew s _).changes
  | powerOnReset => cases h; exact .single (.restarts (.of_eq rfl rfl rfl rfl))

theorem step_changes {s t : State} (h : step s = .next t) : Changes s t := by
  unfold step at h
  split at h
  next => cases h; exact (oscillate_nothingNew s).changes
  next i rest _ =>
    have popped : Change s (s.setPending rest) := .nothingNew (.of_eq rfl rfl rfl rfl)
    exact .head popped (exec_changes i h)

/-- Settles O56: a step is a chain of changes, each of which keeps the identity law. -/
theorem identityLawKept : Obligations.IdentityLawKept := fun _ _ law h => law.changes (step_changes h)

/-- Settles O57: a step is a chain of changes, each of which keeps the laws of records and profiles. -/
theorem estimateLawKept : Obligations.EstimateLawKept := fun _ _ law h => law.changes (step_changes h)

end Sys2Proof.Machine
end

section
/-! PROOFS. The law of the queues and the pool (R41, R43, R107, R126, R127, R136, R164): one rule for each block update
and each shared operation, then every row, so every step keeps it. -/

namespace Sys2Proof.Machine

/-! ## The pool and the transmitter -/

theorem State.queued_eq_sum (s : State) : s.queued = ∑ c, (s.channel c).queue.length := by
  simp [State.queued, allChannels, Fin.sum_univ_eight, Nat.add_assoc]

theorem State.queued_le {s t : State} (h : ∀ c, (t.channel c).queue.length ≤ (s.channel c).queue.length) :
    t.queued ≤ s.queued := by
  rw [State.queued_eq_sum, State.queued_eq_sum]
  exact Finset.sum_le_sum fun c _ => h c

/-- A copy queued takes one slot of the pool (R126). -/
theorem queueCopy_queued (o : Offer) (c : Fin 8) (s : State) : (queueCopy o c s).queued = s.queued + 1 := by
  have grown (d : Fin 8) : ((queueCopy o c s).channel d).queue.length =
      (s.channel d).queue.length + if c = d then 1 else 0 := by
    rw [queueCopy_channel]
    split
    next h => subst h; simp
    next => rfl
  simp [State.queued_eq_sum, grown, Finset.sum_add_distrib]

theorem State.sendsFor_iff {s : State} {c : Fin 8} :
    s.sendsFor c = true ↔ ∃ frame, s.link.transmitter = .sending (.channel c) frame := by
  unfold State.sendsFor
  split
  next d frame h => simp [h]
  next h => simp [h]
  next h => simp [h]
  next h => simp [h]

theorem State.sendsFor_of_transmitter {s t : State} (h : t.link.transmitter = s.link.transmitter) (c : Fin 8) :
    t.sendsFor c = s.sendsFor c := by
  simp only [State.sendsFor, h]

theorem State.sendsFor_of_idle {s : State} (h : s.link.transmitter = .idle) (c : Fin 8) : s.sendsFor c = false := by
  simp only [State.sendsFor, h]

/-- The transmitter sends for one channel at most (R134). -/
theorem State.sendsFor_unique {s : State} {c d : Fin 8} (hc : s.sendsFor c = true) (hd : s.sendsFor d = true) :
    c = d := by
  obtain ⟨_, hc⟩ := State.sendsFor_iff.mp hc
  obtain ⟨_, hd⟩ := State.sendsFor_iff.mp hd
  cases hc.symm.trans hd
  rfl

/-! ## What a queue keeps -/

theorem answerFirst_length (r : Reply) (l : List Command) : (answerFirst r l).length = l.length := by
  induction l with
  | nil => rfl
  | cons e l ih =>
    unfold answerFirst
    split
    · rfl
    · simp [ih]

theorem sendFirst_length (l : List Command) : (sendFirst l).length = l.length := by
  induction l with
  | nil => rfl
  | cons e l ih =>
    unfold sendFirst
    split
    · rfl
    · simp [ih]
    · simp [ih]

theorem keptCopies_length_le (s : State) (c : Fin 8) : (s.keptCopies c).length ≤ (s.channel c).queue.length := by
  unfold State.keptCopies
  split
  · exact List.length_take_le' _ _
  · exact Nat.zero_le _

theorem keptCopies_length_le_one (s : State) (c : Fin 8) :
    (s.keptCopies c).length ≤ if s.sendsFor c = true then 1 else 0 := by
  unfold State.keptCopies
  split
  · exact List.length_take_le _ _
  · exact Nat.zero_le _

theorem keptCopies_ne_nil {s : State} {c : Fin 8} (hs : s.sendsFor c = true) (hq : (s.channel c).queue ≠ []) :
    s.keptCopies c ≠ [] := by
  simp [State.keptCopies, hs, hq]

/-- A flush keeps of a channel's queue what it keeps whatever else of the channel has changed (R124). -/
theorem keptCopies_putChannel (s : State) (c : Fin 8) {x : Channel} (hq : x.queue = (s.channel c).queue) :
    (s.putChannel c x).keptCopies c = s.keptCopies c := by
  rw [State.keptCopies, State.putChannel_channel_same, hq]
  rfl

theorem engineReset_queueLaw (cause : ResetCause) (s : State) : QueueLaw (engineReset cause s) :=
  { queueLaw_reset with }

/-! ## The block updates -/

section

variable {s : State} (h : QueueLaw s)

include h

theorem QueueLaw.setPending (x : List Instr) : QueueLaw (s.setPending x) := { h with }

theorem QueueLaw.setBins (x : SlotTable BinRecord) : QueueLaw (s.setBins x) := { h with }

theorem QueueLaw.putBin (slot : Nat) (r : BinRecord) : QueueLaw (s.putBin slot r) := h.setBins _

theorem QueueLaw.setProfiles (x : Vector Profile 16) : QueueLaw (s.setProfiles x) := { h with }

theorem QueueLaw.setClock (x : Clock) : QueueLaw (s.setClock x) := { h with }

theorem QueueLaw.setSoonHorizon (x : Nat) : QueueLaw (s.setSoonHorizon x) := { h with }

theorem QueueLaw.setIntake {x : Intake} (hq : x.queue.length ≤ 64) (ha : x.answers.length ≤ 16) :
    QueueLaw (s.setIntake x) := { h with intake := hq, answers := ha }

theorem QueueLaw.countIntake (f : IntakeCounters → IntakeCounters) : QueueLaw (s.countIntake f) :=
  h.setIntake h.intake h.answers

theorem QueueLaw.setStrangers {x : Strangers} (hx : x.entries.length ≤ 32) : QueueLaw (s.setStrangers x) :=
  { h with strangers := hx }

theorem QueueLaw.dropStranger (id : Identity) : QueueLaw (s.dropStranger id) :=
  h.setStrangers ((List.length_filter_le _ _).trans h.strangers)

theorem QueueLaw.setSweep {x : Sweep} (hx : x.state ≠ .idle → (s.channel x.channel).enabled = true) :
    QueueLaw (s.setSweep x) := { h with sweeping := hx }

/-- A sweep that stays on its channel, and is in progress only if it was. -/
theorem QueueLaw.setSweep_channel {x : Sweep} (hc : x.channel = s.sweep.channel)
    (hx : x.state ≠ .idle → s.sweep.state ≠ .idle) :
    QueueLaw (s.setSweep x) := h.setSweep fun hn => hc ▸ h.sweeping (hx hn)

theorem QueueLaw.setLink {x : LinkState} (hc : x.commands.length ≤ 4)
    (ht : ∀ c, (s.setLink x).sendsFor c = s.sendsFor c) : QueueLaw (s.setLink x) :=
  { h with
    commands := hc
    disabled := fun c => by rw [ht]; exact h.disabled c
    sending := fun c => by rw [ht]; exact h.sending c }

/-- The link changed but for its transmitter. -/
theorem QueueLaw.setLink_transmitter {x : LinkState} (hc : x.commands.length ≤ 4)
    (ht : x.transmitter = s.link.transmitter) : QueueLaw (s.setLink x) :=
  h.setLink hc fun c => State.sendsFor_of_transmitter ht c

theorem QueueLaw.countLink (f : LinkCounters → LinkCounters) : QueueLaw (s.countLink f) :=
  h.setLink_transmitter h.commands rfl

/-- An idle transmitter begins a frame, for a channel only with a copy of its queue (R135, R136). -/
theorem QueueLaw.begins {x : LinkState} (idle : s.link.transmitter = .idle) (hc : x.commands.length ≤ 4)
    (ht : ∀ c, (s.setLink x).sendsFor c = true → (s.channel c).queue ≠ []) : QueueLaw (s.setLink x) :=
  { h with
    commands := hc
    disabled := fun c hd => by
      have empty := h.disabled c hd
      rw [State.sendsFor_of_idle idle] at empty
      exact empty.trans (Nat.zero_le _)
    sending := ht }

/-- Report Channels changed: queues of the same lengths, and no channel switched off. -/
theorem QueueLaw.setReports {x : Reports}
    (he : ∀ c, (s.channel c).enabled = true → ((s.setReports x).channel c).enabled = true)
    (hq : ∀ c, ((s.setReports x).channel c).queue.length = (s.channel c).queue.length) : QueueLaw (s.setReports x) :=
  { h with
    pool := (State.queued_le fun c => (hq c).le).trans h.pool
    queues := fun c => (hq c).trans_le (h.queues c)
    disabled := fun c hd => (hq c).trans_le <| h.disabled c <| by
      by_contra hn
      exact Bool.eq_false_iff.mp hd (he c (by simpa using hn))
    sending := fun c hs => by
      have := h.sending c hs
      rw [← List.length_pos_iff] at this ⊢
      exact (hq c).symm ▸ this
    sweeping := fun hn => he _ (h.sweeping hn) }

theorem QueueLaw.putChannel {c : Fin 8} {x : Channel} (he : (s.channel c).enabled = true → x.enabled = true)
    (hq : x.queue.length = (s.channel c).queue.length) : QueueLaw (s.putChannel c x) := by
  refine h.setReports (fun d hd => ?_) fun d => ?_
  · change ((s.putChannel c x).channel d).enabled = true
    rw [State.putChannel_channel]
    split
    next e => exact he (e ▸ hd)
    next => exact hd
  · change ((s.putChannel c x).channel d).queue.length = _
    rw [State.putChannel_channel]
    split
    next e => exact e ▸ hq
    next => rfl

end

/-! ## Copies, offers and the sweep's placements -/

/-- A copy that is queued finds room in its channel and in the pool (R128, R129). -/
theorem admits_room {p : Priority} {free : Nat} {ch : Channel} (h : admits p free ch = true) :
    0 < free ∧ ch.queue.length < 64 := by
  cases p with
  | low =>
    simp only [admits, Bool.and_eq_true, decide_eq_true_eq] at h
    omega
  | normal =>
    simp only [admits, Bool.and_eq_true, decide_eq_true_eq] at h
    obtain ⟨hfree, hlen⟩ := h
    exact ⟨by omega, hlen⟩
  | high =>
    simp only [admits, Bool.and_eq_true, decide_eq_true_eq] at h
    obtain ⟨hfree, hlen⟩ := h
    exact ⟨by omega, hlen⟩

theorem offerMatches_enabled {ch : Channel} {b : ReportBody} (h : offerMatches ch b = true) : ch.enabled = true := by
  unfold offerMatches at h
  split at h
  · cases h
  · simp only [Bool.and_eq_true] at h
    obtain ⟨⟨enabled, -⟩, -⟩ := h
    exact enabled

section

variable {s : State} (h : QueueLaw s)

include h

theorem mapBin_queueLaw (slot : Nat) (f : BinRecord → BinRecord) : QueueLaw (s.mapBin slot f) := h.setBins _

theorem shedCopy_queueLaw (o : Offer) (c : Fin 8) : QueueLaw (shedCopy o c s) := by
  have counted := h.putChannel (c := c)
    (x := { s.channel c with counters := raiseShed o.report.body.priority (s.channel c).counters }) id rfl
  unfold shedCopy
  split
  · exact mapBin_queueLaw counted _ _
  · exact counted

/-- A copy queued on an enabled channel with room (R126, R127). -/
theorem queueCopy_queueLaw (o : Offer) {p : Priority} {c : Fin 8} (he : (s.channel c).enabled = true)
    (room : admits p s.poolFree (s.channel c) = true) : QueueLaw (queueCopy o c s) := by
  obtain ⟨hfree, hlen⟩ := admits_room room
  have only := offersOnly_queueCopy o c s
  have channel := fun d => queueCopy_channel o c d s
  have sends := State.sendsFor_of_transmitter (congrArg LinkState.transmitter only.link)
  refine ⟨only.intake ▸ h.intake, only.intake ▸ h.answers, only.strangers ▸ h.strangers, only.link ▸ h.commands, ?_,
    fun d => ?_, fun d hd => ?_, fun d hs => ?_, fun hn => ?_⟩
  · rw [queueCopy_queued]
    unfold State.poolFree Config.poolSlots at hfree
    omega
  · rw [channel]
    split
    next => simpa using hlen
    next => exact h.queues d
  · rw [channel] at hd ⊢
    rw [sends]
    split at hd
    next => exact absurd he (by simpa using hd)
    next hne => rw [if_neg hne]; exact h.disabled d hd
  · rw [sends] at hs
    rw [channel]
    split
    next => simp
    next => exact h.sending d hs
  · rw [only.sweep] at hn ⊢
    rw [channel]
    split
    next => exact he
    next => exact h.sweeping hn

theorem settleOn_queueLaw (o : Offer) (c : Fin 8) : QueueLaw (settleOn o s c) := by
  unfold settleOn
  split
  next hm =>
    split
    next room => exact queueCopy_queueLaw h o (offerMatches_enabled hm) room
    next => exact shedCopy_queueLaw h o c
  next => exact h

theorem judgeSweepEnd_queueLaw (hn : s.sweep.state ≠ .idle) : QueueLaw (judgeSweepEnd s) := by
  obtain ⟨room, e⟩ | ⟨-, e⟩ := judgeSweepEnd_cases s
  · rw [e]
    exact (queueCopy_queueLaw h _ (h.sweeping hn) room).setSweep fun idle => absurd rfl idle
  · rwa [e]

theorem enterClosing_queueLaw (why : PendingEnd) (hn : s.sweep.state ≠ .idle) : QueueLaw (enterClosing why s) :=
  judgeSweepEnd_queueLaw (h.setSweep_channel rfl fun _ => hn) (by simp)

theorem notifySweep_queueLaw : QueueLaw (notifySweep s) := by
  unfold notifySweep
  split
  next hw => exact h.setSweep_channel rfl fun _ => by simp [hw]
  next hc => exact judgeSweepEnd_queueLaw h (by simp [hc])
  next => exact h
  next => exact h

end

theorem settleFold_queueLaw (o : Offer) (l : List (Fin 8)) {s : State} (h : QueueLaw s) :
    QueueLaw (l.foldl (settleOn o) s) := by
  induction l generalizing s with
  | nil => exact h
  | cons c l ih => exact ih (settleOn_queueLaw h o c)

theorem settle_queueLaw {s : State} (h : QueueLaw s) (o : Offer) : QueueLaw (settle s o) := settleFold_queueLaw o _ h

theorem settleAll_queueLaw (offers : List Offer) {s : State} (h : QueueLaw s) : QueueLaw (settleAll offers s) := by
  induction offers generalizing s with
  | nil => exact h
  | cons o offers ih => exact ih (settle_queueLaw h o)

/-! ## Events on records -/

theorem replaceRecord_queueLaw {s : State} (h : QueueLaw s) (slot : Nat) (out : BinRecord × List Raised) :
    QueueLaw (replaceRecord slot out s) := settleAll_queueLaw _ (h.putBin slot _)

theorem putMoves_queueLaw (moves : List Move) {s : State} (h : QueueLaw s) :
    QueueLaw (moves.foldl (fun t m => t.putBin m.1 m.2.1) s) := by
  induction moves generalizing s with
  | nil => exact h
  | cons m moves ih => exact ih (h.putBin m.1 m.2.1)

theorem applyMoves_queueLaw {s : State} (h : QueueLaw s) (time : Nat) (moves : List Move) :
    QueueLaw (applyMoves time moves s) := settleAll_queueLaw _ (putMoves_queueLaw moves h)

theorem purge_queueLaw {s : State} (h : QueueLaw s) (slot : Nat) : QueueLaw (purge slot s) :=
  h.setIntake ((List.length_filter_le _ _).trans h.intake) h.answers

theorem detachSlot_queueLaw {s : State} (h : QueueLaw s) (slot : Nat) : QueueLaw (detachSlot slot s) :=
  h.setReports
    (fun c he => (congrArg Channel.enabled (detachSlot_channel slot s c)).trans he)
    (fun c => (congrArg (·.queue.length) (detachSlot_channel slot s c)).trans (List.length_map _))

theorem retireSlot_queueLaw {s : State} (h : QueueLaw s) (slot : Nat) : QueueLaw (retireSlot slot s) :=
  (detachSlot_queueLaw (purge_queueLaw h slot) slot).setBins _

theorem estimation_queueLaw {s : State} (h : QueueLaw s) : QueueLaw (estimation s) := by
  unfold estimation
  split
  next => exact h
  next e rest hq =>
    have shorter : rest.length ≤ 64 := by
      have := h.intake
      rw [hq, List.length_cons] at this
      omega
    have taken : QueueLaw (s.setIntake { s.intake with queue := rest }) := h.setIntake shorter h.answers
    simp only
    split
    next => exact taken
    next =>
      split
      next => exact taken
      next => exact replaceRecord_queueLaw (taken.countIntake _) _ _

/-! ## Captures -/

section

variable {s : State} (h : QueueLaw s)

include h

/-- An answer is appended below sixteen, and takes the place of the oldest else (R43). -/
theorem placeAnswer_queueLaw (a : Answer) : QueueLaw (placeAnswer a s) := by
  unfold placeAnswer Config.answerPlaces
  split
  next hl => exact h.setIntake h.intake (by simpa using hl)
  next hl =>
    refine h.setIntake h.intake ?_
    have := h.answers
    simp only [List.length_append, List.length_drop, List.length_singleton]
    omega

theorem makeAnswer_queueLaw (src : Source) (r : BinRecord) (q : BitVec 4) (v : Verdict) :
    QueueLaw (makeAnswer src r q v s) := by
  unfold makeAnswer
  split
  · exact placeAnswer_queueLaw h _
  · exact h

theorem hearStranger_queueLaw (g : Hearing) : QueueLaw (hearStranger g s) := by
  unfold hearStranger
  split
  next => exact h.setStrangers ((List.length_map _).trans_le h.strangers)
  next =>
    split
    next hl => exact settle_queueLaw (h.setStrangers (by simpa [Config.strangerPlaces] using hl)) _
    next => exact h.countIntake _

theorem takeHeld_queueLaw (cap : Capture) (g : GoodFrame) (r : BinRecord) : QueueLaw (takeHeld cap g r s) :=
  makeAnswer_queueLaw (h.countIntake _) ..

theorem takeAccepted_queueLaw (cap : Capture) (g : GoodFrame) (gap slot : Nat) (r : BinRecord)
    (room : s.intake.queue.length < 64) : QueueLaw (takeAccepted cap g gap slot r s) := by
  unfold takeAccepted
  refine makeAnswer_queueLaw ((h.putBin slot _).setIntake ?_ ?_) ..
  · simpa using room
  · exact h.answers

theorem takeOverrun_queueLaw : QueueLaw (takeOverrun s) := by
  unfold takeOverrun
  exact h.countIntake _

theorem takeMalformed_queueLaw (cap : Capture) (why : Malformed) : QueueLaw (takeMalformed cap why s) := by
  unfold takeMalformed
  exact settle_queueLaw (h.countIntake _) _

theorem admitCapture_queueLaw (cap : Capture) (g : GoodFrame) (gap slot : Nat) (r : BinRecord) :
    QueueLaw (admitCapture cap g gap slot r s).1 := by
  have held := takeHeld_queueLaw h cap g r
  have accepted := takeAccepted_queueLaw h cap g gap slot r
  unfold admitCapture Config.intakePlaces
  split
  next =>
    split
    next => exact held
    next hr => exact accepted (by omega)
  next =>
    split
    next => exact takeOverrun_queueLaw h
    next hr => exact accepted (by omega)
  next =>
    split
    next => exact held
    next hr => exact accepted (by omega)

theorem classify_queueLaw (cap : Capture) (g : GoodFrame) (slot : Nat) (r : BinRecord) :
    QueueLaw (classify cap g slot r s).1 := by
  unfold classify
  split
  next => exact makeAnswer_queueLaw (h.countIntake _) ..
  next =>
    split
    · exact makeAnswer_queueLaw ((h.putBin slot _).countIntake _) ..
    · exact makeAnswer_queueLaw ((h.putBin slot _).countIntake _) ..
    · exact admitCapture_queueLaw h ..

theorem takeCapture_queueLaw (cap : Capture) : QueueLaw (takeCapture cap s).1 := by
  unfold takeCapture
  split
  next why _ =>
    dsimp only
    exact takeMalformed_queueLaw h cap why
  next =>
    split
    next => exact hearStranger_queueLaw (h.countIntake _) _
    next => exact classify_queueLaw h ..

/-! ## Reception -/

theorem fieldFound_queueLaw (f : Finding) : QueueLaw (fieldFound f s) := by
  have goesOn (held : List Byte) : QueueLaw (s.setFieldHeld held) := h.setLink_transmitter h.commands rfl
  unfold fieldFound
  cases f with
  | collecting held => exact goesOn held
  | arrived type tag body rest =>
    change QueueLaw (fieldArrival type body (s.setFieldHeld rest))
    unfold fieldArrival
    split
    · exact takeCapture_queueLaw ((goesOn rest).countIntake _) _
    · exact (goesOn rest).countLink _
  | bad rest => exact (goesOn rest).countLink _
  | overlong rest => exact (goesOn rest).countLink _

/-- The Command Queue takes a fifth command never (R164). -/
theorem commandArrives_queueLaw (type tag : Byte) (body : List Byte) : QueueLaw (commandArrives type tag body s) := by
  unfold commandArrives Config.commandPlaces
  split
  next hl => exact h.setLink_transmitter (by simpa using hl) rfl
  next => exact h.countLink _

theorem plannerFound_queueLaw (f : Finding) : QueueLaw (plannerFound f s) := by
  have goesOn (held : List Byte) : QueueLaw (s.setPlannerHeld held) := h.setLink_transmitter h.commands rfl
  unfold plannerFound
  cases f with
  | collecting held => exact goesOn held
  | arrived type tag body rest => exact commandArrives_queueLaw (goesOn rest) type tag body
  | bad rest => exact (goesOn rest).countLink _
  | overlong rest => exact (goesOn rest).countLink _

theorem receive_queueLaw (l : Link) (bytes : List Byte) : QueueLaw (receive l bytes s) := by
  unfold receive
  split
  · exact h
  · cases l with
    | planner => exact plannerFound_queueLaw h _
    | field => exact fieldFound_queueLaw h _

/-! ## Executions of held commands -/

theorem answerHeld_queueLaw (r : Reply) : QueueLaw (s.answerHeld r) :=
  h.setLink_transmitter ((answerFirst_length r _).trans_le h.commands) rfl

/-- An execution keeps the law when the block's act does (R166). -/
theorem carryOut_queueLaw (type : Byte) (lengthOk : Nat → Bool) {act : List Byte → State → State × Reply}
    (ha : ∀ body, QueueLaw (act body s).1) : QueueLaw (carryOut type lengthOk act s) := by
  obtain e | e | ⟨body, -, -, e⟩ := carryOut_cases type lengthOk act s
  · rwa [e]
  · rw [e]; exact answerHeld_queueLaw h _
  · rw [e]; exact answerHeld_queueLaw (ha body) _

theorem onRecord_queueLaw (body : List Byte) {act : Nat → BinRecord → State × Reply}
    (ha : ∀ slot r, QueueLaw (act slot r).1) : QueueLaw (onRecord body s act).1 := by
  obtain ⟨st, e⟩ | ⟨slot, r, -, e⟩ := onRecord_cases body s act
  · rwa [e]
  · rw [e]; exact ha slot r

theorem enrolAct_queueLaw (body : List Byte) : QueueLaw (enrolAct body s).1 := by
  rw [enrolAct]
  split
  next => exact h
  next =>
    split
    next =>
      split
      next => exact h
      next =>
        split
        next => exact h
        next => exact (h.dropStranger _).putBin _ _
    next => exact h

theorem amendAct_queueLaw (body : List Byte) : QueueLaw (amendAct body s).1 :=
  onRecord_queueLaw h body fun slot r => by
    simp only
    split
    · exact replaceRecord_queueLaw h slot _
    · exact h

theorem barAct_queueLaw (body : List Byte) : QueueLaw (barAct body s).1 :=
  onRecord_queueLaw h body fun slot r => by
    split
    · exact h
    · exact (purge_queueLaw h slot).putBin slot _

theorem unbarAct_queueLaw (body : List Byte) : QueueLaw (unbarAct body s).1 :=
  onRecord_queueLaw h body fun slot r => by
    split
    · exact replaceRecord_queueLaw h slot _
    · exact h

theorem clearAlarmsAct_queueLaw (body : List Byte) : QueueLaw (clearAlarmsAct body s).1 := by
  rw [clearAlarmsAct]
  split
  next => exact h
  next =>
    split
    next => exact h
    next =>
      split
      next => exact h
      next => exact h.putBin _ _

theorem storeProfile_queueLaw (i : Fin 16) (p : Profile) : QueueLaw (storeProfile i p s) := by
  rw [storeProfile]
  split
  · exact (h.setProfiles _).setBins _
  · exact h.setProfiles _

theorem profileSetAct_queueLaw (body : List Byte) : QueueLaw (profileSetAct body s).1 := by
  unfold profileSetAct
  split
  next =>
    simp only
    split
    next => exact h
    next => exact storeProfile_queueLaw h _ _
  next => exact h

theorem profileGetAct_queueLaw (body : List Byte) : QueueLaw (profileGetAct body s).1 := by
  unfold profileGetAct
  split
  · exact h
  · exact h

theorem listAct_queueLaw (body : List Byte) : QueueLaw (listAct body s).1 := by
  rw [listAct]
  split
  · exact h
  · exact h

theorem dismissAct_queueLaw (body : List Byte) : QueueLaw (dismissAct body s).1 := by
  rw [dismissAct]
  split
  next => exact h
  next =>
    split
    next => exact h
    next => exact h.dropStranger _

theorem storeItems_queueLaw (i : ConfigItems) : QueueLaw (storeItems i s) := by
  unfold storeItems
  refine (((h.setIntake ?_ ?_).setSoonHorizon _).setStrangers ?_).setReports (fun _ => id) fun _ => rfl
  · exact h.intake
  · exact h.answers
  · exact h.strangers

theorem configAct_queueLaw (body : List Byte) : QueueLaw (configAct body s).1 := by
  rw [configAct]
  split
  · exact h
  · exact storeItems_queueLaw h _

theorem clearCounters_queueLaw : QueueLaw (clearCounters s) := by
  unfold clearCounters
  refine ((h.setReports (fun c he => ?_) fun c => ?_).setIntake ?_ ?_).setLink_transmitter ?_ rfl
  · simpa [State.channel] using he
  · simp [State.channel]
  · exact h.intake
  · exact h.answers
  · exact h.commands

theorem countersAct_queueLaw (body : List Byte) : QueueLaw (countersAct body s).1 := by
  unfold countersAct
  split
  next => exact h
  next =>
    simp only
    split
    · exact clearCounters_queueLaw h
    · exact h

theorem refuseUnknown_queueLaw : QueueLaw (refuseUnknown s) := by
  unfold refuseUnknown
  split
  next => exact h
  next =>
    split
    · exact h
    · exact answerHeld_queueLaw h _

/-! ## The channels and the sweep -/

theorem creditAct_queueLaw (body : List Byte) : QueueLaw (creditAct body s).1 := by
  unfold creditAct
  split
  · exact h
  · exact h.putChannel id rfl

/-- One channel's queue shortened: what the law says of that channel and of the sweep is to be shown (R124, R137). -/
theorem QueueLaw.shortens {t : State} {c : Fin 8} (hi : t.intake = s.intake) (hs : t.strangers = s.strangers)
    (hc : t.link.commands = s.link.commands) (others : ∀ d, c ≠ d → t.channel d = s.channel d)
    (shorter : (t.channel c).queue.length ≤ (s.channel c).queue.length)
    (sends : ∀ d, c ≠ d → t.sendsFor d = s.sendsFor d)
    (disabled : (t.channel c).enabled = false → (t.channel c).queue.length ≤ if t.sendsFor c = true then 1 else 0)
    (sending : t.sendsFor c = true → (t.channel c).queue ≠ [])
    (sweeping : t.sweep.state ≠ .idle → (t.channel t.sweep.channel).enabled = true) : QueueLaw t := by
  have lengths (d : Fin 8) : (t.channel d).queue.length ≤ (s.channel d).queue.length := by
    by_cases hd : c = d
    · exact hd ▸ shorter
    · rw [others d hd]
  refine ⟨hi ▸ h.intake, hi ▸ h.answers, hs ▸ h.strangers, hc ▸ h.commands, (State.queued_le lengths).trans h.pool,
    fun d => (lengths d).trans (h.queues d), fun d => ?_, fun d => ?_, sweeping⟩
  · by_cases hd : c = d
    · exact hd ▸ disabled
    · rw [others d hd, sends d hd]; exact h.disabled d
  · by_cases hd : c = d
    · exact hd ▸ sending
    · rw [others d hd, sends d hd]; exact h.sending d

/-- A channel configured anew and flushed keeps the law under a sweep that is not in progress on it (R124, R152). -/
theorem flush_queueLaw (c : Fin 8) (x : ChannelConfig) {w : Sweep}
    (hw : w.state ≠ .idle → w.channel ≠ c ∧ (s.channel w.channel).enabled = true) :
    QueueLaw ((flush c (s.putChannel c (configured x (s.channel c)))).setSweep w) := by
  let t := flush c (s.putChannel c (configured x (s.channel c)))
  have only : OffersOnly s t := (offersOnly_putChannel s c _).trans (offersOnly_flush c _)
  have sends (d : Fin 8) : (t.setSweep w).sendsFor d = s.sendsFor d :=
    State.sendsFor_of_transmitter (congrArg LinkState.transmitter only.link) d
  have others (d : Fin 8) (hd : c ≠ d) : (t.setSweep w).channel d = s.channel d :=
    (flush_channel c d _).trans ((if_neg hd).trans (State.putChannel_channel_other s hd _))
  have kept : ((t.setSweep w).channel c).queue = s.keptCopies c :=
    (congrArg Channel.queue ((flush_channel c c _).trans (if_pos rfl))).trans (keptCopies_putChannel s c rfl)
  refine h.shortens only.intake only.strangers (congrArg _ only.link) others ?_ (fun d _ => sends d) (fun _ => ?_)
    (fun hs => ?_) fun hn => ?_
  · rw [kept]; exact keptCopies_length_le s c
  · rw [kept, sends]; exact keptCopies_length_le_one s c
  · rw [sends] at hs
    rw [kept]; exact keptCopies_ne_nil hs (h.sending c hs)
  · obtain ⟨hne, he⟩ := hw hn
    exact (congrArg Channel.enabled (others _ hne.symm)).trans he

/-- The disabling of a channel inside a CHANNEL-SET: its sweep ends, or another's is notified (R124, R149, R152). -/
theorem disableChannel_queueLaw (c : Fin 8) (x : ChannelConfig) :
    QueueLaw (disableChannel c (s.putChannel c (configured x (s.channel c)))) := by
  unfold disableChannel
  simp only
  split
  next => exact flush_queueLaw h c x fun hn => absurd rfl hn
  next hs =>
    refine notifySweep_queueLaw (flush_queueLaw h c x (w := (flush c _).sweep) fun hn => ?_)
    rw [(offersOnly_flush c _).sweep] at hn ⊢
    refine ⟨fun e : s.sweep.channel = c => hs ?_, h.sweeping hn⟩
    simpa [sweepsOn, e] using hn

theorem setChannel_queueLaw (c : Fin 8) (x : ChannelConfig) : QueueLaw (setChannel c x s) := by
  rw [setChannel]
  split
  next => exact disableChannel_queueLaw h c x
  next stays => exact h.putChannel (fun he => by simpa [he, configured] using stays) rfl

theorem channelSetAct_queueLaw (body : List Byte) : QueueLaw (channelSetAct body s).1 := by
  unfold channelSetAct
  split
  · split
    · exact h
    · exact setChannel_queueLaw h _ _
  · exact h

theorem sweepAct_queueLaw (body : List Byte) : QueueLaw (sweepAct body s).1 := by
  unfold sweepAct
  split
  next => exact h
  next =>
    split
    next =>
      split
      next => exact h
      next =>
        split
        next he => exact h.setSweep fun _ => he
        next => exact h
    next => exact h

theorem sweepAbortAct_queueLaw (body : List Byte) : QueueLaw (sweepAbortAct body s).1 := by
  unfold sweepAbortAct
  split
  next hr =>
    dsimp only
    exact enterClosing_queueLaw h .aborted (by simp [hr])
  next hw =>
    dsimp only
    exact enterClosing_queueLaw h .aborted (by simp [hw])
  next => exact h
  next => exact h

theorem passSlot_queueLaw (hn : s.sweep.state ≠ .idle) : QueueLaw (passSlot s) := by
  have passed := h.setSweep_channel
    (x := { s.sweep with cursor := s.sweep.cursor + 1, visited := s.sweep.visited + 1 }) rfl id
  unfold passSlot
  simp only
  split
  · exact enterClosing_queueLaw passed _ hn
  · exact passed

theorem visit_queueLaw (hn : s.sweep.state ≠ .idle) : QueueLaw (visit s) := by
  unfold visit
  split
  next => exact passSlot_queueLaw h hn
  next r _ =>
    split
    next room =>
      have placed := queueCopy_queueLaw h (snapshotOffer r s) (h.sweeping hn) room
      have only := offersOnly_queueCopy (snapshotOffer r s) s.sweep.channel s
      refine passSlot_queueLaw (placed.setSweep_channel ?_ ?_) hn
      · rw [only.sweep]
      · rw [only.sweep]; exact id
    next => exact h.setSweep_channel rfl fun _ => hn

/-! ## Begins and completions -/

theorem beginChannel_queueLaw (idle : s.link.transmitter = .idle) {c : Fin 8} {copy : Copy}
    (hq : (s.channel c).queue ≠ []) : QueueLaw (beginChannel c copy s) := by
  have spent := h.putChannel (x := { s.channel c with credit := (s.channel c).credit - 1 }) id rfl
  have moved := spent.setReports (x := { (s.putChannel c _).reports with rotation := some c }) (fun _ => id)
    fun _ => rfl
  refine moved.begins idle h.commands fun d hd => ?_
  obtain ⟨frame, hf⟩ := State.sendsFor_iff.mp hd
  cases hf
  exact (State.putChannel_channel_same s c _).symm ▸ hq

theorem beginParty_queueLaw (idle : s.link.transmitter = .idle) : QueueLaw (beginParty s) := by
  unfold beginParty
  split
  next => exact h.begins idle h.commands fun _ hs => by cases hs
  next =>
    split
    next => exact h.begins idle ((sendFirst_length _).trans_le h.commands) fun _ hs => by cases hs
    next =>
      unfold beginChosen
      split
      next => exact h
      next c _ =>
        split
        next copy rest hq => exact beginChannel_queueLaw h idle (by simp [hq])
        next => exact h

/-- The copy in transmission leaves; its channel, were it disabled, is then empty (R124, R137). -/
theorem QueueLaw.headLeaves {c : Fin 8} {x : Channel} (hs : s.sendsFor c = true)
    (he : x.enabled = (s.channel c).enabled) (hq : x.queue = (s.channel c).queue.drop 1) :
    QueueLaw (idleTransmitter (s.putChannel c x)) := by
  have left : (idleTransmitter (s.putChannel c x)).channel c = x := State.putChannel_channel_same s c x
  have others (d : Fin 8) (hd : c ≠ d) : (idleTransmitter (s.putChannel c x)).channel d = s.channel d :=
    State.putChannel_channel_other s hd x
  refine h.shortens rfl rfl rfl others ?_ (fun d hd => ?_) (fun off => ?_) (fun idle => by cases idle) fun hn => ?_
  · rw [left, hq]; exact (List.drop_sublist 1 _).length_le
  · exact (Bool.eq_false_iff.mpr fun hd' => hd (State.sendsFor_unique hs hd')).symm
  · have single := h.disabled c (by rw [← he, ← left, off])
    rw [if_pos hs] at single
    rw [left, hq, List.length_drop]
    omega
  · have still := h.sweeping hn
    change (State.channel _ s.sweep.channel).enabled = true
    by_cases hc : c = s.sweep.channel
    · rw [← hc, left, he, hc]; exact still
    · rw [others _ hc]; exact still

theorem completeCopy_queueLaw {c : Fin 8} (hs : s.sendsFor c = true) : QueueLaw (completeCopy c s) :=
  notifySweep_queueLaw (h.headLeaves hs rfl rfl)

/-- A frame that is of no channel leaves the transmitter idle (R137). -/
theorem QueueLaw.idles {p : Party} {frame : List Byte} (ht : s.link.transmitter = .sending p frame)
    (hp : ∀ c, p ≠ .channel c) {x : LinkState} (hc : x.commands.length ≤ 4) (hx : x.transmitter = .idle) :
    QueueLaw (s.setLink x) :=
  h.setLink hc fun c => by
    rw [State.sendsFor_of_idle hx, eq_comm, ← Bool.not_eq_true, State.sendsFor_iff]
    rintro ⟨f, hf⟩
    rw [ht] at hf
    cases hf
    exact hp c rfl

theorem completion_queueLaw : QueueLaw (completion s) := by
  unfold completion
  split
  next => exact h
  next p frame ht =>
    cases p with
    | startNotice => exact h.idles ht (by simp) h.commands rfl
    | reply =>
      change QueueLaw (completeReply s)
      unfold completeReply
      split
      · exact engineReset_queueLaw .command s
      · refine h.idles ht (by simp) ?_ rfl
        exact (List.drop_sublist 1 _).length_le.trans h.commands
    | channel c => exact completeCopy_queueLaw h (State.sendsFor_iff.mpr ⟨frame, ht⟩)

/-- The oldest answer leaves the Answer Queue for the field link (R43). -/
theorem answerBegin_queueLaw : QueueLaw (answerBegin s) := by
  unfold answerBegin
  split
  next a rest _ _ hq =>
    refine h.setIntake h.intake ?_
    have := h.answers
    rw [hq, List.length_cons] at this
    exact (Nat.le_succ _).trans this
  next => exact h

theorem oscillate_queueLaw : QueueLaw (oscillate s) := by
  unfold oscillate
  split
  · exact h.setClock _
  · exact h.setClock _

/-! ## Every row, every step -/

/-- An event taken only when it is due (log entry 2). -/
theorem ite_queueLaw {t : State} {due : Prop} [Decidable due] (ht : due → QueueLaw t) :
    QueueLaw (if due then t else s) := by
  split
  next hd => exact ht hd
  next => exact h

theorem exec_queueLaw (i : Instr) {t : State} (he : exec i s = .next t) : QueueLaw t := by
  cases i with
  | capture bytes => cases he; exact receive_queueLaw h .field bytes
  | unknownType bytes => cases he; exact receive_queueLaw h .field bytes
  | framesBad l bytes => cases he; exact receive_queueLaw h l bytes
  | framesOverlong l bytes => cases he; exact receive_queueLaw h l bytes
  | commandArrival bytes => cases he; exact receive_queueLaw h .planner bytes
  | enrol => cases he; exact carryOut_queueLaw h _ _ (enrolAct_queueLaw h)
  | amend => cases he; exact carryOut_queueLaw h _ _ (amendAct_queueLaw h)
  | retire =>
    cases he
    exact carryOut_queueLaw h _ _ fun body => onRecord_queueLaw h body fun slot _ => retireSlot_queueLaw h slot
  | bar => cases he; exact carryOut_queueLaw h _ _ (barAct_queueLaw h)
  | unbar => cases he; exact carryOut_queueLaw h _ _ (unbarAct_queueLaw h)
  | query => cases he; exact carryOut_queueLaw h _ _ fun body => onRecord_queueLaw h body fun _ _ => h
  | inject => cases he; exact carryOut_queueLaw h _ _ fun _ => takeCapture_queueLaw (h.countIntake _) _
  | profileSet => cases he; exact carryOut_queueLaw h _ _ (profileSetAct_queueLaw h)
  | profileGet => cases he; exact carryOut_queueLaw h _ _ (profileGetAct_queueLaw h)
  | list => cases he; exact carryOut_queueLaw h _ _ (listAct_queueLaw h)
  | clearAlarms => cases he; exact carryOut_queueLaw h _ _ (clearAlarmsAct_queueLaw h)
  | strangers => cases he; exact carryOut_queueLaw h _ _ fun _ => h
  | dismiss => cases he; exact carryOut_queueLaw h _ _ (dismissAct_queueLaw h)
  | channelSet => cases he; exact carryOut_queueLaw h _ _ (channelSetAct_queueLaw h)
  | credit => cases he; exact carryOut_queueLaw h _ _ (creditAct_queueLaw h)
  | sweep => cases he; exact carryOut_queueLaw h _ _ (sweepAct_queueLaw h)
  | sweepAbort => cases he; exact carryOut_queueLaw h _ _ (sweepAbortAct_queueLaw h)
  | setTime => cases he; exact carryOut_queueLaw h _ _ fun _ => h.setClock _
  | status => cases he; exact carryOut_queueLaw h _ _ fun _ => h
  | config => cases he; exact carryOut_queueLaw h _ _ (configAct_queueLaw h)
  | counters => cases he; exact carryOut_queueLaw h _ _ (countersAct_queueLaw h)
  | restart => cases he; exact carryOut_queueLaw h _ _ fun _ => h.setLink_transmitter h.commands rfl
  | unknownCommand => cases he; exact refuseUnknown_queueLaw h
  | estimation => cases he; exact estimation_queueLaw h
  | secondsEvent => cases he; exact h.setClock _
  | secondsWalk => cases he; exact ite_queueLaw h fun _ => applyMoves_queueLaw (h.setClock _) _ _
  | silenceCheck => cases he; exact ite_queueLaw h fun _ => applyMoves_queueLaw (h.setClock _) _ _
  | strangerAging =>
    cases he
    exact ite_queueLaw h fun _ => (h.setClock _).setStrangers ((List.length_filter_le _ _).trans h.strangers)
  | transmissionBegin => cases he; exact ite_queueLaw h fun due => beginParty_queueLaw h due.2
  | transmissionCompletion => cases he; exact completion_queueLaw h
  | answerTransmissionBegin => cases he; exact answerBegin_queueLaw h
  | answerTransmissionCompletion => cases he; exact h.setIntake h.intake h.answers
  | sweepVisit => cases he; exact ite_queueLaw h fun due => visit_queueLaw h (by simp [due])
  | sweepEndPlacement => cases he; exact ite_queueLaw h fun due => judgeSweepEnd_queueLaw h (by simp [due])
  | resetNAssertion => cases he; exact (engineReset_queueLaw .line s).setLink_transmitter (Nat.zero_le _) rfl
  | resetNRelease => cases he; exact h.setLink_transmitter h.commands rfl
  | powerOnReset => cases he; exact { queueLaw_reset with }

theorem step_queueLaw {t : State} (hs : step s = .next t) : QueueLaw t := by
  unfold step at hs
  split at hs
  next => cases hs; exact oscillate_queueLaw h
  next i rest _ => exact exec_queueLaw (h.setPending rest) i hs

end

/-- Settles O55: each row keeps the law, and so does an oscillation. -/
theorem queueLawKept : Obligations.QueueLawKept := fun _ _ law h => step_queueLaw law h

end Sys2Proof.Machine
end

section
/-! PROOFS. Capture Intake (02_capture_intake.md): the six checks one by one and the frames a sensor writes, the
sequence window, what becomes of a capture, its answers, and CONFIG's five items. -/

namespace Sys2Proof.Machine

/-! ## The six checks -/

theorem frameIntact_iff (f : List Byte) :
    frameIntact f = true ↔ crc16 (f.take (f.length - 2)) = BitVec.ofNat 16 (nat16At f (f.length - 2)) := beq_iff_eq

/-- The two indications of a reading are bits of its distance word (R178). -/
theorem readingContent_eq (f : List Byte) :
    readingContent f =
      .reading (nat16At f 5 % 4096) ((nat16At f 5).testBit 12) ((nat16At f 5).testBit 13) (byteAt f 7) := by
  simp [readingContent, Nat.testBit_eq_decide_div_mod_eq, beq_eq_decide]

section

variable {limit : Nat} {f : List Byte}

theorem checkFrame_long (h : limit < f.length) : checkFrame limit f = .failed .long := if_pos h

variable (hl : f.length ≤ limit)

include hl

theorem checkFrame_short (h : f.length < 7) : checkFrame limit f = .failed .short := by
  rw [checkFrame, if_neg (by omega), if_pos h]

variable (hs : 7 ≤ f.length)

include hs

theorem checkFrame_check (h : frameIntact f = false) : checkFrame limit f = .failed .check := by
  rw [checkFrame, if_neg (by omega), if_neg (by omega), if_pos (by simp [h])]

variable (hi : frameIntact f = true)

include hi

/-- A frame within the lengths and intact: the checks of its kind and its identity are left. -/
theorem checkFrame_intact :
    checkFrame limit f =
      if frameKind f ≠ 1 ∧ frameKind f ≠ 2 then .failed .kind
      else if frameKind f = 1 ∧ f.length < 10 then .failed .short
      else if !validIdentity (identityAt f 0) then .failed .kind
      else
        .good
          { identity := identityAt f 0
            seq := frameSeq f
            content := if frameKind f = 1 then readingContent f else .join } := by
  rw [checkFrame, if_neg (by omega), if_neg (by omega), if_neg (by simp [hi])]

theorem checkFrame_kind (h1 : frameKind f ≠ 1) (h2 : frameKind f ≠ 2) : checkFrame limit f = .failed .kind := by
  rw [checkFrame_intact hl hs hi, if_pos ⟨h1, h2⟩]

theorem checkFrame_shortReading (h1 : frameKind f = 1) (h10 : f.length < 10) :
    checkFrame limit f = .failed .short := by
  rw [checkFrame_intact hl hs hi, if_neg (by simp [h1]), if_pos ⟨h1, h10⟩]

variable (hk : frameKind f = 2 ∨ frameKind f = 1 ∧ 10 ≤ f.length)

include hk

/-- A frame of a known kind and long enough for it: its identity is left. -/
theorem checkFrame_identity :
    checkFrame limit f =
      if !validIdentity (identityAt f 0) then .failed .kind
      else
        .good
          { identity := identityAt f 0
            seq := frameSeq f
            content := if frameKind f = 1 then readingContent f else .join } := by
  rw [checkFrame_intact hl hs hi, if_neg (by omega), if_neg (by omega)]

theorem checkFrame_invalid (hv : validIdentity (identityAt f 0) = false) : checkFrame limit f = .failed .kind := by
  rw [checkFrame_identity hl hs hi hk, if_pos (by simp [hv])]

theorem checkFrame_good (hv : validIdentity (identityAt f 0) = true) :
    checkFrame limit f =
      .good
        { identity := identityAt f 0
          seq := frameSeq f
          content := if frameKind f = 1 then readingContent f else .join } := by
  rw [checkFrame_identity hl hs hi hk, if_neg (by simp [hv])]

end

/-- Settles O8: each check in its order; the content of a good reading read by bits. -/
theorem sensorFrameChecks : Obligations.SensorFrameChecks := by
  intro limit f
  refine ⟨checkFrame_long, checkFrame_short, fun hl hs => ⟨fun hb => ?_, fun hi => ?_⟩⟩
  · exact checkFrame_check hl hs (Bool.eq_false_iff.mpr (hb ∘ (frameIntact_iff f).mp))
  · replace hi := (frameIntact_iff f).mpr hi
    refine ⟨checkFrame_kind hl hs hi, checkFrame_shortReading hl hs hi, fun hk => ⟨fun hv => ?_, fun h0 h1 => ?_⟩⟩
    · exact checkFrame_invalid hl hs hi hk ((validIdentity_eq_false_iff _).mpr hv)
    · rw [checkFrame_good hl hs hi hk ((validIdentity_iff _).mpr ⟨h0, h1⟩), readingContent_eq]
      rfl

/-! ## The frames a sensor writes -/

theorem byteAt_append_length (l m : List Byte) (i : Nat) : byteAt (l ++ m) (l.length + i) = byteAt m i := by
  simp [byteAt, List.getElem?_append_right]

theorem nat16At_append_length (l m : List Byte) : nat16At (l ++ m) l.length = nat16At m 0 := by
  rw [nat16At, nat16At, byteAt_append_length l m 1, ← byteAt_append_length l m 0]
  rfl

/-- Bytes closed by their CRC-16 are intact (R30). -/
theorem frameIntact_closed (covered : List Byte) : frameIntact (covered ++ be16 (crc16 covered).toNat) = true := by
  have hl : (covered ++ be16 (crc16 covered).toNat).length - 2 = covered.length := by simp
  have hc : nat16At (be16 (crc16 covered).toNat) 0 = (crc16 covered).toNat := by
    simpa using nat16At_be16 (crc16 covered).isLt []
  rw [frameIntact_iff, hl, List.take_left, nat16At_append_length, hc, BitVec.ofNat_toNat, BitVec.setWidth_eq]

/-- The control byte of a sensor frame read back (R178). -/
theorem controlByte_fields (seq : BitVec 4) {kind : Nat} (hk : kind < 16) :
    (byteOf (seq.toNat * 16 + kind)).toNat % 16 = kind ∧
      BitVec.ofNat 4 ((byteOf (seq.toNat * 16 + kind)).toNat / 16) = seq := by
  have hs := seq.isLt
  rw [byteOf_toNat_of_lt (by omega)]
  refine ⟨by omega, ?_⟩
  rw [show (seq.toNat * 16 + kind) / 16 = seq.toNat by omega, BitVec.ofNat_toNat, BitVec.setWidth_eq]

/-- The fields of a frame that begins with an identity and a control byte (R178). -/
theorem frame_head (id : Identity) (seq : BitVec 4) {kind : Nat} (hk : kind < 16) (body : List Byte) :
    identityAt (be32 id.toNat ++ byteOf (seq.toNat * 16 + kind) :: body) 0 = id ∧
      frameKind (be32 id.toNat ++ byteOf (seq.toNat * 16 + kind) :: body) = kind ∧
      frameSeq (be32 id.toNat ++ byteOf (seq.toNat * 16 + kind) :: body) = seq :=
  ⟨identityAt_be32 id _, controlByte_fields seq hk⟩

/-- A frame of either kind, closed by its CRC-16 and with a body long enough for the kind, is good (R29, R178). -/
theorem checkFrame_closed {limit kind : Nat} {id : Identity} {seq : BitVec 4} {covered body : List Byte}
    (hc : covered = be32 id.toNat ++ byteOf (seq.toNat * 16 + kind) :: body) (hl : covered.length + 2 ≤ limit)
    (hk : kind = 2 ∨ kind = 1 ∧ 3 ≤ body.length) (h0 : id ≠ 0#32) (h1 : id ≠ 0xFFFFFFFF#32) :
    checkFrame limit (covered ++ be16 (crc16 covered).toNat) =
      .good
        { identity := id
          seq := seq
          content :=
            if kind = 1 then readingContent (covered ++ be16 (crc16 covered).toNat) else .join } := by
  have intact := frameIntact_closed covered
  have length : (covered ++ be16 (crc16 covered).toNat).length = covered.length + 2 := by simp
  have covers : covered.length = body.length + 5 := by simp [hc]; omega
  obtain ⟨hid, hkind, hseq⟩ : identityAt (covered ++ be16 (crc16 covered).toNat) 0 = id ∧
      frameKind (covered ++ be16 (crc16 covered).toNat) = kind ∧
      frameSeq (covered ++ be16 (crc16 covered).toNat) = seq := by
    have parts : covered ++ be16 (crc16 covered).toNat =
        be32 id.toNat ++ byteOf (seq.toNat * 16 + kind) :: (body ++ be16 (crc16 covered).toNat) := by
      rw [hc]
      simp
    rw [parts]
    exact frame_head id seq (by omega) _
  rw [checkFrame_good (by omega) (by omega) intact (by omega) (by rw [hid]; exact (validIdentity_iff id).mpr ⟨h0, h1⟩),
    hid, hkind, hseq]

/-- The distance word of a reading: distance, lid and tilt, and two bits that say nothing (R178). -/
def distanceWord (top distance : Nat) (lid tilt : Bool) : Nat :=
  top * 16384 + (if tilt then 8192 else 0) + (if lid then 4096 else 0) + distance

theorem distanceWord_fields {top distance : Nat} (lid tilt : Bool) (ht : top < 4) (hd : distance < 4096) :
    distanceWord top distance lid tilt < 65536 ∧ distanceWord top distance lid tilt % 4096 = distance ∧
      (distanceWord top distance lid tilt / 4096 % 2 == 1) = lid ∧
      (distanceWord top distance lid tilt / 8192 % 2 == 1) = tilt := by
  unfold distanceWord
  cases lid <;> cases tilt <;> simp <;> omega

/-- The content of a reading read back (R30, R178). -/
theorem readingContent_word (id : Identity) (control : Byte) {top distance battery : Nat} (lid tilt : Bool)
    (rest : List Byte) (ht : top < 4) (hd : distance < 4096) (hb : battery < 256) :
    readingContent
        (be32 id.toNat ++ control :: (be16 (distanceWord top distance lid tilt) ++ byteOf battery :: rest)) =
      .reading distance lid tilt battery := by
  obtain ⟨hw, hdistance, hlid, htilt⟩ := distanceWord_fields lid tilt ht hd
  have word : nat16At
      (be32 id.toNat ++ control :: (be16 (distanceWord top distance lid tilt) ++ byteOf battery :: rest)) 5 =
      distanceWord top distance lid tilt := nat16At_be16 hw (byteOf battery :: rest)
  have level : byteAt
      (be32 id.toNat ++ control :: (be16 (distanceWord top distance lid tilt) ++ byteOf battery :: rest)) 7 =
      battery := byteOf_toNat_of_lt hb
  rw [readingContent, word, level, hdistance, hlid, htilt]

theorem checkFrame_join {limit : Nat} {id : Identity} {seq : BitVec 4} {surplus covered : List Byte}
    (h0 : id ≠ 0#32) (h1 : id ≠ 0xFFFFFFFF#32) (hl : covered.length + 2 ≤ limit)
    (hc : covered = be32 id.toNat ++ byteOf (seq.toNat * 16 + 2) :: surplus) :
    checkFrame limit (covered ++ be16 (crc16 covered).toNat) =
      .good { identity := id, seq := seq, content := .join } :=
  checkFrame_closed hc hl (.inl rfl) h0 h1

theorem checkFrame_reading {limit : Nat} {id : Identity} {seq : BitVec 4} {surplus covered : List Byte}
    (h0 : id ≠ 0#32) (h1 : id ≠ 0xFFFFFFFF#32) (hl : covered.length + 2 ≤ limit) {top distance battery : Nat}
    {lid tilt : Bool} (ht : top < 4) (hd : distance < 4096) (hb : battery < 256)
    (hc : covered = be32 id.toNat ++ byteOf (seq.toNat * 16 + 1) ::
      (be16 (distanceWord top distance lid tilt) ++ byteOf battery :: surplus)) :
    checkFrame limit (covered ++ be16 (crc16 covered).toNat) =
      .good { identity := id, seq := seq, content := .reading distance lid tilt battery } := by
  have content := readingContent_word id (byteOf (seq.toNat * 16 + 1)) lid tilt
    (surplus ++ be16 (crc16 covered).toNat) ht hd hb
  have parts : covered ++ be16 (crc16 covered).toNat = be32 id.toNat ++ byteOf (seq.toNat * 16 + 1) ::
      (be16 (distanceWord top distance lid tilt) ++ byteOf battery :: (surplus ++ be16 (crc16 covered).toNat)) := by
    rw [hc]
    simp
  rw [checkFrame_closed hc hl (.inr ⟨rfl, by simp; omega⟩) h0 h1, if_pos rfl, parts, content]

/-- Settles O9: the frames a sensor writes are those without surplus bytes and with the word's top bits 0. -/
theorem sensorFrameRoundTrip : Obligations.SensorFrameRoundTrip := by
  refine ⟨fun limit id seq hl h0 h1 => ⟨?_, fun distance battery lid tilt hd hb => ?_⟩,
    fun limit id seq surplus covered h0 h1 hl =>
      ⟨checkFrame_join h0 h1 hl, fun top distance battery lid tilt ht hd hb =>
        checkFrame_reading h0 h1 hl ht hd hb⟩⟩
  · exact checkFrame_join (surplus := []) h0 h1 (by simp; omega) rfl
  · have word : distance + flagBit lid 4096 + flagBit tilt 8192 = distanceWord 0 distance lid tilt := by
      unfold distanceWord flagBit
      omega
    exact checkFrame_reading (top := 0) (surplus := []) h0 h1 (by simpa using hl) (by decide) hd hb (by simp [word])

/-! ## The sequence window -/

/-- Settles O10: the class depends on d alone, which BitVec subtraction computes. -/
theorem sequenceWindowClasses : Obligations.SequenceWindowClasses := by
  refine ⟨fun _ _ => rfl, fun e seq d hd => ?_⟩
  have distance : (seq - e).toNat = d := by
    have := e.isLt
    rw [BitVec.toNat_sub, hd]
    omega
  simp only [windowClass, distance]
  refine ⟨fun h _ => if_pos h, fun h => ?_, fun h => ?_, fun h8 h14 => ?_⟩
  · rw [if_neg h, if_pos trivial]
  · rw [if_neg (by omega), if_neg (by simp), if_pos h]
  · rw [if_neg (by omega), if_neg (by simp), if_neg (by omega)]

/-! ## What becomes of a capture -/

theorem isJoin_eq (c : Content) : isJoin c = decide (c = .join) := by
  cases c with
  | join => rfl
  | reading => simp [isJoin]

theorem frameIdentity_eq (f : List Byte) :
    frameIdentity f = if 4 ≤ f.length then some (identityAt f 0) else none := by
  unfold frameIdentity
  split
  next h => rw [if_neg (by omega)]
  next h => rw [if_pos (by omega)]

theorem takeCapture_failed {s : State} {cap : Capture} {why : Malformed}
    (h : checkFrame s.intake.captureLimit cap.frame = .failed why) :
    takeCapture cap s = (takeMalformed cap why s, .malformed why) := by
  simp only [takeCapture, h]

section

variable {s : State} {cap : Capture} {g : GoodFrame} (hg : checkFrame s.intake.captureLimit cap.frame = .good g)

include hg

theorem takeCapture_unknown (hf : s.find g.identity = none) :
    takeCapture cap s = (takeStranger cap g s, .stranger) := by
  simp only [takeCapture, hg, hf]

variable {slot : Nat} {r : BinRecord} (hf : s.find g.identity = some (slot, r))

include hf

theorem takeCapture_barred (hb : r.standing = .barred) : takeCapture cap s = (takeRefused cap g r s, .refused) := by
  simp only [takeCapture, hg, hf, classify, hb, if_true]

variable (hb : r.standing ≠ .barred)

include hb

theorem takeCapture_duplicate (hw : windowClass r.expectation (g.content = .join) g.seq = .duplicate) :
    takeCapture cap s = (takeDuplicate cap g slot r s, .duplicate) := by
  simp only [takeCapture, hg, hf, classify, if_neg hb, isJoin_eq, hw]

theorem takeCapture_stale (hw : windowClass r.expectation (g.content = .join) g.seq = .stale) :
    takeCapture cap s = (takeStale cap g slot r s, .stale) := by
  simp only [takeCapture, hg, hf, classify, if_neg hb, isJoin_eq, hw]

theorem takeCapture_admissible {gap : Nat}
    (hw : windowClass r.expectation (g.content = .join) g.seq = .admissible gap) :
    takeCapture cap s = admitCapture cap g gap slot r s := by
  simp only [takeCapture, hg, hf, classify, if_neg hb, isJoin_eq, hw]

end

/-- Settles O13: a failed check, a BARRED record, a duplicate and a stale reading one by one. -/
theorem captureSettledAtOnce : Obligations.CaptureSettledAtOnce := by
  refine ⟨fun s cap why h => ?_, fun s cap g slot r hg hf => ⟨fun hb => ?_, fun hb hw => ?_, fun hb hw => ?_⟩⟩
  · rw [takeCapture_failed h, takeMalformed, malformedOffer, frameIdentity_eq]
    cases why with
    | long => rfl
    | short => rfl
    | check => rfl
    | kind => rfl
  · exact takeCapture_barred hg hf hb
  · exact takeCapture_duplicate hg hf hb hw
  · exact takeCapture_stale hg hf hb hw

/-! ## Admission -/

section

variable {cap : Capture} {r : BinRecord} {s : State} (g : GoodFrame) (gap slot : Nat)

/-- The capture finds room: a field capture of an ANSWERED bin below the hold threshold too (R39). -/
theorem admitCapture_room (hq : s.intake.queue.length < 64)
    (hh : cap.source = .field → r.ackMode = .answered → s.intake.queue.length < s.intake.holdThreshold) :
    admitCapture cap g gap slot r s = (takeAccepted cap g gap slot r s, .accepted) := by
  have places : ¬Config.intakePlaces ≤ s.intake.queue.length := Nat.not_le.mpr hq
  unfold admitCapture
  split
  next hs ha => rw [if_neg (not_or.mpr ⟨Nat.not_le.mpr (hh hs ha), places⟩)]
  next => rw [if_neg places]
  next => rw [if_neg places]

theorem admitCapture_answered (hs : cap.source = .field) (ha : r.ackMode = .answered)
    (hq : s.intake.holdThreshold ≤ s.intake.queue.length ∨ 64 ≤ s.intake.queue.length) :
    admitCapture cap g gap slot r s = (takeHeld cap g r s, .held) := by
  simp only [admitCapture, hs, ha]
  exact if_pos hq

theorem admitCapture_unanswered (hs : cap.source = .field) (ha : r.ackMode = .unanswered)
    (hq : 64 ≤ s.intake.queue.length) : admitCapture cap g gap slot r s = (takeOverrun s, .overrun) := by
  simp only [admitCapture, hs, ha]
  exact if_pos hq

theorem admitCapture_relayed (hs : cap.source = .relayed) (hq : 64 ≤ s.intake.queue.length) :
    admitCapture cap g gap slot r s = (takeHeld cap g r s, .held) := by
  simp only [admitCapture, hs]
  exact if_pos hq

end

/-- Only a field capture is answered (R42). -/
theorem makeAnswer_relayed (r : BinRecord) (seq : BitVec 4) (v : Verdict) (s : State) :
    makeAnswer .relayed r seq v s = s := if_neg (by simp)

theorem rssiOf_heard {cap : Capture} {rssi : Int} {antenna : Nat} (h : cap.heard = some (rssi, antenna)) :
    rssiOf cap = rssi := by
  simp [rssiOf, h]

theorem antennaOf_heard {cap : Capture} {rssi : Int} {antenna : Nat} (h : cap.heard = some (rssi, antenna)) :
    antennaOf cap = antenna := by
  simp [antennaOf, h]

theorem takeAccepted_eq {cap : Capture} {rssi : Int} {antenna : Nat} (h : cap.heard = some (rssi, antenna))
    (g : GoodFrame) (gap slot : Nat) (r : BinRecord) (s : State) :
    takeAccepted cap g gap slot r s =
      answering cap.source r g.seq .accept
        ((s.putBin slot { r with expectation := some (g.seq + 1#4), missed := sat16 r.missed gap }).setIntake
          { s.intake with
            queue := s.intake.queue ++
              [{ slot := slot, content := g.content, rssi := rssi, antenna := antenna, arrival := cap.arrival }]
            counters :=
              { s.intake.counters with
                accepted := sat32 s.intake.counters.accepted 1
                joins := if g.content = .join then sat32 s.intake.counters.joins 1 else s.intake.counters.joins
                gaps := sat32 s.intake.counters.gaps gap } }) := by
  simp only [takeAccepted, entryOf, countAccepted, rssiOf_heard h, antennaOf_heard h, isJoin_eq, decide_eq_true_eq]
  rfl

/-- Settles O14: by the room the Intake Queue has for the capture's source and the bin's ack mode. -/
theorem captureAdmission : Obligations.CaptureAdmission := by
  refine ⟨fun s cap g slot gap antenna rssi r hg hf hb hw heard hq hh => ?_,
    fun s cap g slot gap r hg hf hb hw => ⟨fun hs ha hq => ?_, fun hs ha hq => ?_, fun hs hq => ?_⟩⟩
  · rw [takeCapture_admissible hg hf hb hw, admitCapture_room g gap slot hq hh, takeAccepted_eq heard]
  · rw [takeCapture_admissible hg hf hb hw, admitCapture_answered g gap slot hs ha hq, takeHeld, hs]
    rfl
  · rw [takeCapture_admissible hg hf hb hw, admitCapture_unanswered g gap slot hs ha hq]
    rfl
  · rw [takeCapture_admissible hg hf hb hw, admitCapture_relayed g gap slot hs hq, takeHeld, hs, makeAnswer_relayed]
    rfl

/-! ## Strangers -/

theorem State.stranger_eq_none_iff (s : State) (id : Identity) :
    s.stranger id = none ↔ ∀ e ∈ s.strangers.entries, e.identity ≠ id := by
  simp [State.stranger]

section

variable {s : State} {h : Hearing}

theorem hearStranger_listed (hl : ∃ e ∈ s.strangers.entries, e.identity = h.identity) :
    hearStranger h s =
      s.setStrangers
        { s.strangers with
          entries := s.strangers.entries.map fun e =>
            if e.identity = h.identity then hearAgain s.clock.uptime h e else e } := by
  have known : (s.stranger h.identity).isSome = true := by
    rw [Option.isSome_iff_ne_none, Ne, State.stranger_eq_none_iff]
    simpa using hl
  rw [hearStranger, if_pos known]

variable (hn : ∀ e ∈ s.strangers.entries, e.identity ≠ h.identity)

include hn

theorem hearStranger_new (hl : s.strangers.entries.length < 32) : hearStranger h s = appendStranger h s := by
  rw [hearStranger, (State.stranger_eq_none_iff s _).mpr hn, if_neg (by simp)]
  exact if_pos hl

theorem hearStranger_full (hl : 32 ≤ s.strangers.entries.length) :
    hearStranger h s = s.countIntake fun k => { k with strangerOverflow := raise32 k.strangerOverflow 1 } := by
  rw [hearStranger, (State.stranger_eq_none_iff s _).mpr hn, if_neg (by simp)]
  exact if_neg (Nat.not_lt.mpr hl)

end

/-- Settles O15: what the Stranger List is handed of the capture, then its three cases. -/
theorem strangerHeard : Obligations.StrangerHeard := by
  intro s cap g antenna rssi k hg hf heard hk
  have handed : takeStranger cap g s =
      hearStranger ⟨g.identity, decide (g.content = .join), g.seq, rssi, antenna⟩ (s.withCounters k) := by
    rw [takeStranger, rssiOf_heard heard, antennaOf_heard heard, isJoin_eq, hk]
    rfl
  rw [takeCapture_unknown hg hf, handed]
  exact ⟨fun hl => congrArg (·, CaptureOutcome.stranger) (hearStranger_listed hl),
    fun hn hl => congrArg (·, CaptureOutcome.stranger) (hearStranger_new (s := s.withCounters k) hn hl),
    fun hn hl => congrArg (·, CaptureOutcome.stranger) (hearStranger_full (s := s.withCounters k) hn hl)⟩

/-! ## The two ways a capture comes in -/

/-- The bytes delivered bring a capture, whose receiver goes on behind the frame (R27, R162). -/
theorem exec_capture_delivers {s : State} {bytes body rest : List Byte} (h : Delivers s bytes body rest) :
    exec (.capture bytes) s = .next (takeCapture (fieldCapture s.clock.uptime body) (capturing s rest)).1 := by
  obtain ⟨high, tag, found⟩ := h
  change Host.Outcome.next (receive .field bytes s) = _
  simp only [receive, high, found]
  rfl

theorem fieldCapture_short (arrival : Nat) {body : List Byte} (h : body.length < 2) :
    fieldCapture arrival body = { source := .field, arrival := arrival, heard := none, frame := [] } := by
  match body, h with
  | [], _ => rfl
  | [_], _ => rfl

/-- Settles O11: the row takes the capture the body holds. -/
theorem captureIsTaken : Obligations.CaptureIsTaken := by
  refine ⟨fun s bytes frame rest antenna rssi h => exec_capture_delivers h, fun s bytes body rest hb h => ?_⟩
  rw [exec_capture_delivers h, fieldCapture_short _ hb]

theorem relayedCapture_injectBody (uptime : Nat) {age : Nat} (ha : age < 65536) (antenna rssi : Byte)
    (frame : List Byte) :
    relayedCapture uptime (injectBody age antenna rssi frame) =
      { source := .relayed
        arrival := uptime - age
        heard := some (min rssi.toInt 0, min antenna.toNat 3)
        frame := frame } := by
  have field : nat16At (injectBody age antenna rssi frame) 0 = age := nat16At_be16 ha _
  rw [relayedCapture, field]
  rfl

theorem injectBody_length {age : Nat} {antenna rssi : Byte} {frame : List Byte} (hf : frame.length ≤ 594) :
    injectLength (injectBody age antenna rssi frame).length = true := by
  simp [injectLength, injectBody]
  omega

/-- The outcomes that concern an enrolled bin (R28). -/
theorem concernsBin_iff (o : CaptureOutcome) :
    concernsBin o = true ↔ o = .accepted ∨ o = .duplicate ∨ o = .stale ∨ o = .held ∨ o = .refused := by
  cases o <;> simp [concernsBin]

/-- Settles O12: the body read back, then the reply's three fields. -/
theorem injectIsTaken : Obligations.InjectIsTaken := by
  intro s age antenna rssi frame ha hf hx
  refine ⟨_, _, rfl, congrArg Host.Outcome.next ((carryOut_acts hx (injectBody_length hf)).trans ?_)⟩
  simp only [injectAct, relayedCapture_injectBody _ ha, frameIdentity_eq, injectedBin, concernsBin_iff]
  rfl

/-! ## Answers -/

/-- Settles O16: the Answer Queue below and at sixteen, then the transmitter's begin and completion. -/
theorem answerLinkMoves : Obligations.AnswerLinkMoves := by
  refine ⟨fun a s h => if_pos h, fun a old rest s hq h => ?_, fun a rest s high idle hq => ?_, fun _ _ _ _ => rfl⟩
  · have full : ¬s.intake.answers.length < Config.answerPlaces := Nat.not_lt.mpr h
    rw [placeAnswer, if_neg full, hq]
    rfl
  · change Host.Outcome.next (answerBegin s) = _
    simp only [answerBegin, high, idle, hq]
    obtain ⟨id, seq, v⟩ := a
    cases v with
    | accept => rfl
    | hold => rfl
    | refuse => rfl

/-! ## CONFIG -/

theorem readArbitration_eq_none {n : Nat} (h : 2 ≤ n) : readArbitration n = none := by
  obtain ⟨k, rfl⟩ := Nat.exists_eq_add_of_le' h
  rfl

theorem readArbitration_of_lt {n : Nat} (h : n < 2) :
    readArbitration n = some (if n = 0 then .rotate else .ranked) := by
  obtain rfl | rfl : n = 0 ∨ n = 1 := by omega
  · rfl
  · rfl

/-- The fields of a CONFIG body as the part reads them (R182). -/
theorem configBody_fields {hold limit horizon age mode : Nat} (hh : hold < 256) (hl : limit < 256)
    (hz : horizon < 4294967296) (ha : age < 4294967296) (hm : mode < 256) (arbitration : Arbitration) :
    byteAt (configBody hold limit horizon age mode) 10 = mode ∧
      readItems (configBody hold limit horizon age mode) arbitration =
        { holdThreshold := hold
          captureLimit := limit
          soonHorizon := horizon
          strangerAge := age
          arbitration := arbitration } := by
  have h0 : byteAt (configBody hold limit horizon age mode) 0 = hold := byteOf_toNat_of_lt hh
  have h1 : byteAt (configBody hold limit horizon age mode) 1 = limit := byteOf_toNat_of_lt hl
  have h2 : nat32At (configBody hold limit horizon age mode) 2 = horizon := nat32At_be32 hz (be32 age ++ [byteOf mode])
  have h6 : nat32At (configBody hold limit horizon age mode) 6 = age := nat32At_be32 ha [byteOf mode]
  refine ⟨byteOf_toNat_of_lt hm, ?_⟩
  rw [readItems, h0, h1, h2, h6]

/-- What is stored is what was given exactly when the four quantities were in range (R170). -/
theorem configItems_eq_iff (i : ConfigItems) (hold limit horizon age : Nat) :
    i = ⟨hold, limit, horizon, age, i.arbitration⟩ ↔
      i.holdThreshold = hold ∧ i.captureLimit = limit ∧ i.soonHorizon = horizon ∧ i.strangerAge = age := by
  cases i
  simp

/-- Settles O50: an arbitration mode outside its encoding is refused; else the items as read are clamped and stored. -/
theorem configStores : Obligations.ConfigStores := by
  intro s hold limit horizon age mode items hh hl hz ha hm hx
  obtain ⟨hmode, given⟩ := configBody_fields hh hl hz ha hm items.arbitration
  refine ⟨fun h2 => ?_, fun h2 hi => ?_⟩
  · refine congrArg Host.Outcome.next (carryOut_answers hx rfl ?_)
    rw [configAct, hmode, readArbitration_eq_none h2]
  · have arbitration : readArbitration mode = some items.arbitration := by rw [readArbitration_of_lt h2, hi]
    have stored : clampItems ⟨hold, limit, horizon, age, items.arbitration⟩ = items := by
      rw [hi]
      rfl
    refine congrArg Host.Outcome.next ((carryOut_acts hx rfl).trans ?_)
    simp only [configAct, hmode, arbitration, given, stored, configItems_eq_iff]
    rfl

end Sys2Proof.Machine
end

section
/-! PROOFS. Fill Estimation (03_fill_estimation.md): the commands on profiles, what each stage of an estimation makes of
a record, the arithmetic of the measuring stages, and the estimation of a join, a blind reading and a non-blind one. -/

namespace Sys2Proof.Machine

/-! ## The commands on profiles -/

/-- Settles O25: an index below 16 is read back as it was written, any other refuses the command. -/
theorem profileGetReads : Obligations.ProfileGetReads := by
  intro s index hi hx
  have index0 : byteAt (profileGetBody index) 0 = index := byteOf_toNat_of_lt hi
  refine ⟨fun i hi => congrArg Host.Outcome.next (carryOut_answers hx rfl ?_),
    fun h16 => congrArg Host.Outcome.next (carryOut_answers hx rfl ?_)⟩
  · rw [profileGetAct, index0, hi, index16_val]
  · rw [profileGetAct, index0, index16_eq_none h16]
    rfl

theorem readYesNo_of_lt {n : Nat} (h : n < 2) : readYesNo n = some (decide (n = 1)) := by
  obtain rfl | rfl : n = 0 ∨ n = 1 := by omega
  · rfl
  · rfl

theorem readYesNo_eq_none {n : Nat} (h : 2 ≤ n) : readYesNo n = none := by
  obtain ⟨k, rfl⟩ := Nat.exists_eq_add_of_le' h
  rfl

theorem profileSetBody_heads {index median : Nat} (p : Profile) (hi : index < 256) (hm : median < 256) :
    byteAt (profileSetBody index median p) 0 = index ∧ byteAt (profileSetBody index median p) 9 = median :=
  ⟨byteOf_toNat_of_lt hi, byteOf_toNat_of_lt hm⟩

/-- The parameters of a PROFILE-SET body as the part reads them (R182). -/
theorem readProfile_profileSetBody (index median : Nat) {p : Profile} (he : p.emptyDepth < 65536)
    (hf : p.fullDepth < 65536) (ht : p.threshold < 65536) (hw : p.fillWeight < 256) (hr : p.rateWeight < 256)
    (hd : p.emptiedDrop < 65536) (hs : p.reportStep < 65536) (hl : p.silenceLimit < 65536) (filter : Bool) :
    readProfile (profileSetBody index median p) filter = { p with median := filter } := by
  have h1 : nat16At (profileSetBody index median p) 1 = p.emptyDepth := nat16At_be16 he []
  have h3 : nat16At (profileSetBody index median p) 3 = p.fullDepth := nat16At_be16 hf []
  have h5 : nat16At (profileSetBody index median p) 5 = p.threshold := nat16At_be16 ht []
  have h7 : byteAt (profileSetBody index median p) 7 = p.fillWeight := byteOf_toNat_of_lt hw
  have h8 : byteAt (profileSetBody index median p) 8 = p.rateWeight := byteOf_toNat_of_lt hr
  have h10 : nat16At (profileSetBody index median p) 10 = p.emptiedDrop := nat16At_be16 hd []
  have h12 : nat16At (profileSetBody index median p) 12 = p.reportStep := nat16At_be16 hs []
  have h14 : nat16At (profileSetBody index median p) 14 = p.silenceLimit := nat16At_be16 hl []
  rw [readProfile, h1, h3, h5, h7, h8, h10, h12, h14]

/-- The three refusals of PROFILE-SET; the depths do not depend on the median filter (R51). -/
theorem profileSetAct_range {s : State} {body : List Byte}
    (h : index16 (byteAt body 0) = none ∨ readYesNo (byteAt body 9) = none ∨
      ∀ filter, (clampProfile (readProfile body filter)).emptyDepth <
        (clampProfile (readProfile body filter)).fullDepth + 50) :
    profileSetAct body s = (s, .refusedIndex .range (body.getD 0 0)) := by
  unfold profileSetAct
  split
  next i filter hi hm =>
    obtain h | h | h := h
    · rw [h] at hi; cases hi
    · rw [h] at hm; cases hm
    · exact if_pos (h filter)
  next => rfl

theorem profileSetAct_stores {s : State} {body : List Byte} {i : Fin 16} {filter : Bool} {given stored : Profile}
    (hi : index16 (byteAt body 0) = some i) (hm : readYesNo (byteAt body 9) = some filter)
    (hg : readProfile body filter = given) (hs : clampProfile given = stored)
    (hd : stored.fullDepth + 50 ≤ stored.emptyDepth) :
    profileSetAct body s =
      (storeProfile i stored s, .profile (if given = stored then .ok else .clamped) i stored) := by
  simp only [profileSetAct, hi, hm, hg, hs, if_neg (Nat.not_lt.mpr hd), eq_comm (a := stored)]

/-- A stored profile, with the rebase marks written as one pass over the records (R51, R52). -/
theorem storeProfile_eq (i : Fin 16) (q : Profile) (s : State) :
    storeProfile i q s =
      (s.setProfiles (s.profiles.set i q)).setBins
        (s.bins.map fun b =>
          (b.1,
            if b.2.profile = i ∧
                ((s.profile i).emptyDepth ≠ q.emptyDepth ∨ (s.profile i).fullDepth ≠ q.fullDepth) then
              { b.2 with rebasePending := true }
            else b.2)) := by
  simp only [storeProfile, depthsDiffer_eq_decide, decide_eq_true_eq]
  split
  next h => simp only [h, and_true, markRebase]
  next h =>
    simp only [h, and_false, if_false, Prod.mk.eta, List.map_id']
    rfl

/-- Settles O26: the body reads back as its fields; then the refusals, or the clamped parameters stored. -/
theorem profileSetStores : Obligations.ProfileSetStores := by
  intro s index median p q hi hm he hf ht hw hr hd hs hl hq hx
  obtain ⟨index0, median9⟩ := profileSetBody_heads p hi hm
  have given := readProfile_profileSetBody index median he hf ht hw hr hd hs hl
  have stored : clampProfile { p with median := decide (median = 1) } = q := hq.symm
  refine ⟨fun hout => congrArg Host.Outcome.next (carryOut_answers hx rfl (profileSetAct_range ?_)),
    fun i h16 h2 hdepth => congrArg Host.Outcome.next ((carryOut_acts hx rfl).trans ?_)⟩
  · rw [index0, median9]
    obtain h | h | h := hout
    · exact .inl (index16_eq_none h)
    · exact .inr (.inl (readYesNo_eq_none h))
    · refine .inr (.inr fun filter => ?_)
      rw [← stored] at h
      rw [given]
      exact h
  · rw [profileSetAct_stores (by rw [index0, h16, index16_val]) (by rw [median9, readYesNo_of_lt h2]) (given _) stored
      hdepth, storeProfile_eq]

/-! ## Stages 1 to 4: heard, flags, raw fill -/

theorem estimationTime_eq {r : BinRecord} {e : IntakeEntry} {t : Nat}
    (hl : ∀ last, r.lastReading = some last → t = max e.arrival last) (hn : r.lastReading = none → t = e.arrival) :
    estimationTime r e = t := by
  unfold estimationTime
  split
  next last h => exact (hl last h).symm
  next h => exact (hn h).symm

/-- The standing stage 1 leaves (R58). -/
theorem stageHeard_standing (p : Profile) (t : Nat) (e : IntakeEntry) (r : BinRecord) :
    (stageHeard p t e r).standing =
      if r.fill = none ∧ nonBlind e.content = false then .enrolled else .active := by
  cases hf : r.fill with
  | none => cases hc : nonBlind e.content <;> simp [stageHeard, hf, hc]
  | some f => simp [stageHeard, hf]

/-- Stage 1 in one update (R57, R58). -/
theorem stageHeard_eq {p : Profile} {t : Nat} {e : IntakeEntry} {r : BinRecord} {standing : Standing}
    (h : (stageHeard p t e r).standing = standing) :
    stageHeard p t e r =
      { r with
        lastHeard := t
        lastRssi := some e.rssi
        lastAntenna := some e.antenna
        deadline := min (t + p.silenceLimit * 60) 4294967295
        conditions := { r.conditions with lapse := false }
        estimated := sat16 r.estimated 1
        standing := standing } := by
  subst h
  rfl

theorem AlarmSet.put_has (x : AlarmSet) (a : Alarm) : x.put a (x.has a) = x := by
  cases a <;> rfl

/-- The latches after a rise: setting a latch that is set already changes nothing (R98). -/
theorem judgeCondition_record (a : Alarm) (present : Bool) (r : BinRecord) :
    (judgeCondition a present r).1 =
      { r with
        conditions := r.conditions.put a present
        latches :=
          if present = true ∧ r.conditions.has a = false then r.latches.put a true else r.latches } := by
  have latched (h : r.latches.has a = true) : r.latches.put a true = r.latches := by
    rw [← h, AlarmSet.put_has]
  cases hl : r.latches.has a with
  | false => simp [judgeCondition, hl]
  | true => simp [judgeCondition, hl, latched hl]

theorem judgeCondition_raises (a : Alarm) (present : Bool) (r : BinRecord) :
    (judgeCondition a present r).2 =
      if present = true ∧ r.conditions.has a = false ∧ r.latches.has a = false then [.alarm a] else [] := by
  simp [judgeCondition, and_assoc]

/-- Judging one condition leaves the presence and the latch of every other. -/
theorem judgeCondition_other {a b : Alarm} (h : a ≠ b) (present : Bool) (r : BinRecord) :
    (judgeCondition a present r).1.conditions.has b = r.conditions.has b ∧
      (judgeCondition a present r).1.latches.has b = r.latches.has b := by
  rw [judgeCondition_record]
  refine ⟨by rw [AlarmSet.has_put, if_neg h], ?_⟩
  simp only
  split
  · rw [AlarmSet.has_put, if_neg h]
  · rfl

/-- TILT is judged as if LID had not been (R59). -/
theorem stageFlags_eq (lid tilt : Bool) (battery : Nat) (r : BinRecord) :
    stageFlags lid tilt battery r =
      ((judgeCondition .tilt tilt (judgeCondition .lid lid { r with battery := some (min battery 100) }).1).1,
        (judgeCondition .lid lid r).2 ++ (judgeCondition .tilt tilt r).2) := by
  obtain ⟨hc, hl⟩ := judgeCondition_other (a := .lid) (b := .tilt) nofun lid
    { r with battery := some (min battery 100) }
  have tilts : (judgeCondition .tilt tilt (judgeCondition .lid lid { r with battery := some (min battery 100) }).1).2 =
      (judgeCondition .tilt tilt r).2 := by
    simp only [judgeCondition_raises, hc, hl]
  simp only [stageFlags, tilts]
  rfl

theorem rawFill_near {p : Profile} {d : Nat} (hp : p.fullDepth < p.emptyDepth) (hd : d ≤ p.fullDepth) :
    rawFill p d = 1000 := by
  have full : clamp p.fullDepth p.emptyDepth d = p.fullDepth := by unfold clamp; omega
  rw [rawFill, full, Nat.mul_div_cancel_left _ (Nat.sub_pos_of_lt hp)]

theorem rawFill_far {p : Profile} {d : Nat} (hp : p.fullDepth < p.emptyDepth) (hd : p.emptyDepth ≤ d) :
    rawFill p d = 0 := by
  have empty : clamp p.fullDepth p.emptyDepth d = p.emptyDepth := by unfold clamp; omega
  rw [rawFill, empty, Nat.sub_self, Nat.zero_mul, Nat.zero_div]

theorem rawFill_between {p : Profile} {d : Nat} (hf : p.fullDepth ≤ d) (he : d ≤ p.emptyDepth) :
    rawFill p d = (p.emptyDepth - d) * 1000 / (p.emptyDepth - p.fullDepth) := by
  have inside : clamp p.fullDepth p.emptyDepth d = d := by unfold clamp; omega
  rw [rawFill, inside]

/-- Settles O27: stage 1, the conditions, the flags stage and the raw fill, each by its own lemma. -/
theorem estimationFirstStages : Obligations.EstimationFirstStages := by
  refine ⟨fun p r e t hl hn => ⟨estimationTime_eq hl hn, ?_⟩,
    fun a present r => ⟨judgeCondition_record a present r, judgeCondition_raises a present r⟩, stageFlags_eq,
    fun p d _ hp => ⟨rawFill_near hp, rawFill_far hp, rawFill_between⟩⟩
  refine stageHeard_eq ((stageHeard_standing p t e r).trans ?_)
  cases e.content with
  | join => simp [nonBlind]
  | reading d => simp [nonBlind]

/-! ## The arithmetic of smoothing and rate -/

theorem median3_between (a b c : Nat) : min a (min b c) ≤ median3 a b c ∧ median3 a b c ≤ max a (max b c) := by
  unfold median3
  omega

theorem median3_of_sorted {a b c : Nat} (hab : a ≤ b) (hbc : b ≤ c) :
    median3 a b c = b ∧ median3 b a c = b ∧ median3 a c b = b ∧ median3 b c a = b ∧ median3 c a b = b ∧
      median3 c b a = b := by
  unfold median3
  omega

/-- A fill that has not risen gives the rate sample 0 (R67). -/
theorem rateSample_falling {old new : Nat} (h : new ≤ old) (dt : Nat) : rateSample old new dt = 0 := by
  have drop : ((new : Int) - old) * 57600 = -(((old : Int) - new) * 57600) := by omega
  have quotient : 0 ≤ Int.tdiv (((old : Int) - new) * 57600) (max dt 60 : Nat) :=
    Int.tdiv_nonneg (by omega) (by omega)
  rw [rateSample, drop, Int.neg_tdiv]
  omega

/-- A risen fill gives a quotient of natural numbers (R67). -/
theorem rateSample_rising {old new : Nat} (h : old ≤ new) (dt : Nat) :
    rateSample old new dt = min ((new - old) * 57600 / max dt 60) 16000 := by
  have rise : ((new : Int) - old) * 57600 = ((new - old) * 57600 : Nat) := by omega
  rw [rateSample, rise, ← Int.ofNat_tdiv]
  simp only [Int.natCast_nonneg, sup_of_le_left, Int.toNat_natCast]

/-- At most sixteen sixteenths of a difference lie between nothing and the difference (R66). -/
theorem sixteenth_between (d : Int) {w : Nat} (hw : w ≤ 16) :
    min d 0 ≤ sixteenth (d * w) ∧ sixteenth (d * w) ≤ max d 0 := by
  have bounds : 0 ≤ d ∧ 0 ≤ d * w ∧ d * w ≤ d * 16 ∨ d ≤ 0 ∧ d * w ≤ 0 ∧ d * 16 ≤ d * w := by
    rcases le_total 0 d with hd | hd
    · exact .inl ⟨hd, mul_nonneg hd (by omega), mul_le_mul_of_nonneg_left (by omega) hd⟩
    · exact .inr ⟨hd, mul_nonpos_of_nonpos_of_nonneg hd (by omega), mul_le_mul_of_nonpos_left (by omega) hd⟩
  unfold sixteenth
  split
  · omega
  · omega

/-- The moved value as an integer: it never falls below 0, so nothing is cut off (R66, R68). -/
theorem blend_eq (old target : Nat) {w : Nat} (hw : w ≤ 16) :
    (blend old target w : Int) = old + sixteenth (((target : Int) - old) * w) := by
  have := (sixteenth_between ((target : Int) - old) hw).1
  unfold blend
  omega

theorem blend_between (old target : Nat) {w : Nat} (hw : w ≤ 16) :
    min old target ≤ blend old target w ∧ blend old target w ≤ max old target := by
  have := sixteenth_between ((target : Int) - old) hw
  have := blend_eq old target hw
  omega

theorem blend_sixteen (old target : Nat) : blend old target 16 = target := by
  have whole : sixteenth (((target : Int) - old) * (16 : Nat)) = target - old := by
    unfold sixteenth
    split
    · omega
    · omega
  have := blend_eq old target (le_refl 16)
  omega

/-- Settles O30: the middle of three, the sample of a falling and of a rising fill, and the sixteenths. -/
theorem smoothingArithmetic : Obligations.SmoothingArithmetic := by
  refine ⟨⟨fun a b c => ⟨rfl, rfl, rfl, median3_between a b c, median3_of_sorted⟩, fun old new dt =>
      ⟨(rateSample_falling · dt), fun h hdt => ?_, fun h hdt => ?_⟩⟩,
    fun old target w x hw hx => ⟨fun h0 => ?_, fun h0 => ?_, (blend_between old target hw).1,
      (blend_between old target hw).2, blend_sixteen old target⟩⟩
  · rw [rateSample_rising h, max_eq_left hdt]
  · rw [rateSample_rising h, max_eq_right hdt.le]
  · rw [blend_eq old target hw, ← hx, sixteenth, if_pos h0]
  · rw [blend_eq old target hw, ← hx, sixteenth, if_neg (not_le.mpr h0)]
    rfl

/-! ## Stages 5 to 11 -/

/-- Stage 6 takes the reading: a fill that no rebase replaces, fallen by the emptied drop (R63, R64). -/
def Collects (p : Profile) (raw : Nat) (r : BinRecord) : Prop :=
  r.fill ≠ none ∧ r.rebasePending = false ∧ raw + p.emptiedDrop ≤ r.fill.getD 0

theorem collects_iff {p : Profile} {raw old : Nat} {r : BinRecord} (hf : r.fill = some old)
    (hr : r.rebasePending = false) : Collects p raw r ↔ raw + p.emptiedDrop ≤ old := by
  simp [Collects, hf, hr]

theorem stageMeasure_first {r : BinRecord} (h : r.fill = none ∨ r.rebasePending = true) (p : Profile) (t raw : Nat) :
    stageMeasure p t raw r = (stageFirst raw t r, []) := by
  unfold stageMeasure
  split
  next => rfl
  next old hf =>
    obtain h | h := h
    · rw [hf] at h; cases h
    · exact if_pos h

theorem stageMeasure_collects {p : Profile} {raw : Nat} {r : BinRecord} (h : Collects p raw r) (t : Nat) :
    stageMeasure p t raw r = (stageCollection raw t r, [.emptied (r.fill.getD 0)]) := by
  obtain ⟨hf, hr, hd⟩ := h
  obtain ⟨old, hf⟩ := Option.ne_none_iff_exists'.mp hf
  rw [hf] at hd ⊢
  simp only [Option.getD_some] at hd ⊢
  simp [stageMeasure, hf, hr, hd]

theorem stageMeasure_smooths {p : Profile} {raw old : Nat} {r : BinRecord} (hf : r.fill = some old)
    (hr : r.rebasePending = false) (hd : old < raw + p.emptiedDrop) (t : Nat) :
    stageMeasure p t raw r = (stageSmoothing p t raw old r, []) := by
  simp [stageMeasure, hf, hr, Nat.not_le.mpr hd]

/-- Stages 7 and 8 in one update: past a week without a reading the rate and its validity stay (R65 to R68). -/
theorem stageSmoothing_eq {r : BinRecord} {last : Nat} (hl : r.lastReading = some last) (p : Profile)
    (t raw old : Nat) {new : Nat}
    (hn : new = blend old (candidate p.median ((raw :: r.window).take 3)) p.fillWeight) :
    stageSmoothing p t raw old r =
      { r with
        window := (raw :: r.window).take 3
        fill := some new
        lastReading := some t
        rate :=
          if 604800 < t - last then r.rate
          else if r.rateValid then blend r.rate (rateSample old new (t - last)) p.rateWeight
          else rateSample old new (t - last)
        rateValid := r.rateValid || decide (t - last ≤ 604800) } := by
  subst hn
  simp only [stageSmoothing, stageRate, pushWindow, hl, Option.getD_some]
  split
  next h => simp [Nat.not_le.mpr h]
  next h => simp [Nat.not_lt.mp h]

/-- Without a collection no EMPTIED is raised and the last reported fill stands (R63, R65 to R68). -/
theorem stageMeasure_not_collects {p : Profile} {raw : Nat} {r : BinRecord} (h : ¬Collects p raw r) (t : Nat) :
    (stageMeasure p t raw r).2 = [] ∧ (stageMeasure p t raw r).1.lastReported = r.lastReported := by
  by_cases hfirst : r.fill = none ∨ r.rebasePending = true
  · rw [stageMeasure_first hfirst]
    exact ⟨rfl, rfl⟩
  · rw [not_or, Bool.not_eq_true] at hfirst
    obtain ⟨hf, hr⟩ := hfirst
    obtain ⟨old, hf⟩ := Option.ne_none_iff_exists'.mp hf
    rw [collects_iff hf hr, not_le] at h
    rw [stageMeasure_smooths hf hr h]
    refine ⟨rfl, ?_⟩
    simp only [stageSmoothing, stageRate]
    split
    · rfl
    · rfl

theorem apart_eq_abs (a b : Nat) : (apart a b : Int) = |(a : Int) - b| := by
  unfold apart
  rcases le_total a b with h | h
  · rw [abs_of_nonpos (by omega)]
    omega
  · rw [abs_of_nonneg (by omega)]
    omega

/-- When stage 11 reports a fill (R70). -/
theorem reportsFill_iff {p : Profile} {r : BinRecord} {f : Nat} (hf : r.fill = some f) :
    reportsFill p r = true ↔
      r.lastReported = none ∨ ∃ last, r.lastReported = some last ∧ (p.reportStep : Int) ≤ |(f : Int) - last| := by
  cases hl : r.lastReported with
  | none => simp [reportsFill, hf, hl]
  | some last => simp [reportsFill, hf, hl, ← apart_eq_abs]

/-- Stage 11 reads and writes nothing that stages 9 and 10 write, so the two orders agree (R69, R70). -/
theorem stageReport_reprojected (p : Profile) (collected : Bool) (r : BinRecord) (threshold base uptime horizon : Nat)
    {hours : Nat} {due : Option Nat} {band : Band} {projected : Bool}
    (hp : project r.fill r.conditions.overfull r.rate r.rateValid threshold base = (hours, due))
    (hb : bandOf hours due uptime horizon = (band, projected)) :
    stageReport p collected (reproject threshold base uptime horizon r).1 =
      ({ (stageReport p collected r).1 with hours := hours, due := due, band := band, projected := projected },
        (stageReport p collected r).2) := by
  have banded : (reproject threshold base uptime horizon r).1 =
      { r with hours := hours, due := due, band := band, projected := projected } := by
    simp only [reproject, applyBand, hp, hb]
  have same : reportsFill p { r with hours := hours, due := due, band := band, projected := projected } =
      reportsFill p r := rfl
  rw [banded, stageReport, stageReport, same]
  split
  · rfl
  · rfl

theorem reproject_raises {r : BinRecord} {threshold base uptime horizon hours : Nat} {due : Option Nat} {band : Band}
    {projected : Bool} (hp : project r.fill r.conditions.overfull r.rate r.rateValid threshold base = (hours, due))
    (hb : bandOf hours due uptime horizon = (band, projected)) :
    (reproject threshold base uptime horizon r).2 = bandOffer r.band band := by
  simp only [reproject, applyBand, hp, hb]

theorem stageMeasure_band (p : Profile) (t raw : Nat) (r : BinRecord) :
    (stageMeasure p t raw r).1.band = r.band := by
  unfold stageMeasure stageSmoothing stageRate
  split
  · rfl
  · split
    · rfl
    · split
      · rfl
      · simp only
        split
        · rfl
        · rfl

/-! ## The estimation of the oldest entry -/

theorem estimateRecord_join {e : IntakeEntry} (hc : e.content = .join) (p : Profile) (uptime horizon : Nat)
    (r : BinRecord) : estimateRecord p e uptime horizon r = (stageHeard p (estimationTime r e) e r, []) := by
  simp only [estimateRecord, hc]

theorem estimateRecord_blind {e : IntakeEntry} {lid tilt : Bool} {battery : Nat}
    (hc : e.content = .reading 0 lid tilt battery) (p : Profile) (uptime horizon : Nat) (r : BinRecord) :
    estimateRecord p e uptime horizon r =
      stageFlags lid tilt battery (stageHeard p (estimationTime r e) e r) := by
  simp only [estimateRecord, hc, if_true]

theorem estimateRecord_nonBlind {e : IntakeEntry} {d battery : Nat} {lid tilt : Bool}
    (hc : e.content = .reading d lid tilt battery) (hd : d ≠ 0) {p : Profile} {uptime horizon : Nat} {r : BinRecord}
    {flagged : BinRecord} {alarms : List Raised}
    (hf : stageFlags lid tilt battery (stageHeard p (estimationTime r e) e r) = (flagged, alarms)) :
    estimateRecord p e uptime horizon r =
      ((stageNonBlind p (estimationTime r e) d uptime horizon flagged).1,
        alarms ++ (stageNonBlind p (estimationTime r e) d uptime horizon flagged).2) := by
  simp only [estimateRecord, hc, if_neg hd, hf]

/-- The oldest entry is taken, and its record replaced by what the eleven stages make of it (R55). -/
theorem exec_estimation {s : State} {e : IntakeEntry} {rest : List IntakeEntry} {r : BinRecord}
    (hq : s.intake.queue = e :: rest) (hr : s.bin e.slot = some r) (hb : r.standing ≠ .barred) :
    exec .estimation s =
      .next (replaceRecord e.slot (estimateRecord (s.profile r.profile) e s.clock.uptime s.soonHorizon r)
        ((s.setIntake { s.intake with queue := rest }).countIntake (countBlind e.content))) := by
  change Host.Outcome.next (estimation s) = _
  simp only [estimation, hq, hr, if_neg hb]

/-- Only a blind reading is counted (R60). -/
theorem countBlind_of_not_blind {content : Content} (h : isBlind content = false) (k : IntakeCounters) :
    countBlind content k = k := by
  simp [countBlind, h]

/-- Settles O28: the eleven stages end after stage 1 for a join and after stage 2 for a blind reading. -/
theorem estimationOfJoinOrBlind : Obligations.EstimationOfJoinOrBlind := by
  intro s e rest r r1 hq hr hb hr1
  refine ⟨fun hc => ?_, fun lid tilt battery r2 raised hc hf => ?_⟩
  · rw [exec_estimation hq hr hb, estimateRecord_join hc, ← hr1, hc]
    rfl
  · rw [exec_estimation hq hr hb, estimateRecord_blind hc, ← hr1, hf, hc]
    rfl

/-- The stages before the measuring ones leave what those read. -/
theorem stagesBeforeMeasure_keep {p : Profile} {t battery : Nat} {e : IntakeEntry} {lid tilt present : Bool}
    {r flagged full : BinRecord} {alarms overfull : List Raised}
    (hf : stageFlags lid tilt battery (stageHeard p t e r) = (flagged, alarms))
    (ho : judgeCondition .overfull present flagged = (full, overfull)) :
    full.fill = r.fill ∧ full.rebasePending = r.rebasePending ∧ full.window = r.window ∧ full.rate = r.rate ∧
      full.rateValid = r.rateValid ∧ full.lastReading = r.lastReading ∧ full.lastReported = r.lastReported ∧
      full.emptied = r.emptied ∧ full.band = r.band := by
  cases hf
  cases ho
  exact ⟨rfl, rfl, rfl, rfl, rfl, rfl, rfl, rfl, rfl⟩

/-- Stages 6 and 11 together: a collection raises EMPTIED and no FILL; without one the report step decides (R64,
R70). -/
theorem stageMeasure_reports {p : Profile} {t raw f : Nat} {r measured reported : BinRecord} {report : List Raised}
    (hm : (stageMeasure p t raw r).1 = measured) (hf : measured.fill = some f)
    (hc : Collects p raw r → reported = measured ∧ report = [.emptied (r.fill.getD 0)])
    (hs : ¬Collects p raw r →
      (r.lastReported = none ∨ (∃ last, r.lastReported = some last ∧ (p.reportStep : Int) ≤ |(f : Int) - last|) →
        reported = { measured with lastReported := some f } ∧ report = [.fill]) ∧
      ((∃ last, r.lastReported = some last ∧ |(f : Int) - last| < (p.reportStep : Int)) →
        reported = measured ∧ report = [])) :
    ∃ fills, stageReport p (!(stageMeasure p t raw r).2.isEmpty) measured = (reported, fills) ∧
      (stageMeasure p t raw r).2 ++ fills = report := by
  by_cases h : Collects p raw r
  · obtain ⟨rfl, rfl⟩ := hc h
    rw [stageMeasure_collects h]
    exact ⟨[], rfl, rfl⟩
  · obtain ⟨hnone, hlast⟩ := stageMeasure_not_collects h t
    rw [hm] at hlast
    have due := reportsFill_iff (p := p) hf
    rw [hlast] at due
    rw [hnone]
    by_cases hr : reportsFill p measured = true
    · obtain ⟨rfl, rfl⟩ := (hs h).1 (due.mp hr)
      exact ⟨[.fill], by simp [stageReport, hr, hf], rfl⟩
    · rw [due, not_or, not_exists] at hr
      obtain ⟨hsome, hclose⟩ := hr
      obtain ⟨last, hl⟩ := Option.ne_none_iff_exists'.mp hsome
      have close : |(f : Int) - last| < p.reportStep := not_le.mp fun hle => hclose last ⟨hl, hle⟩
      obtain ⟨rfl, rfl⟩ := (hs h).2 ⟨last, hl, close⟩
      have quiet : reportsFill p reported = false := by
        rw [Bool.eq_false_iff, ne_eq, due, not_or, not_exists]
        exact ⟨hsome, hclose⟩
      exact ⟨[], by simp [stageReport, quiet], rfl⟩

/-- Stages 4 to 11 from what each of them answers (R62 to R71). -/
theorem stageNonBlind_eq {p : Profile} {t d uptime horizon hours : Nat} {flagged full measured reported : BinRecord}
    {overfull fills : List Raised} {due : Option Nat} {band : Band} {projected : Bool}
    (ho : judgeCondition .overfull (decide (d < p.fullDepth)) flagged = (full, overfull))
    (hm : (stageMeasure p t (rawFill p d) full).1 = measured)
    (hr : stageReport p (!(stageMeasure p t (rawFill p d) full).2.isEmpty) measured = (reported, fills))
    (hp : project measured.fill measured.conditions.overfull measured.rate measured.rateValid p.threshold t =
      (hours, due))
    (hb : bandOf hours due uptime horizon = (band, projected)) :
    stageNonBlind p t d uptime horizon flagged =
      ({ reported with hours := hours, due := due, band := band, projected := projected },
        overfull ++ (stageMeasure p t (rawFill p d) full).2 ++ fills ++ bandOffer full.band band) := by
  have before : measured.band = full.band := by rw [← hm, stageMeasure_band]
  simp only [stageNonBlind, ho, hm, stageReport_reprojected p _ measured p.threshold t uptime horizon hp hb,
    reproject_raises hp hb, hr, before]

/-- Settles O29: the stages before leave what stages 5 to 8 read, so the case given says which of those measures; then
the report, and the projection that does not touch it. -/
theorem estimationOfReading : Obligations.EstimationOfReading := by
  intro s e rest r flagged full measured reported p t raw d battery lid tilt alarms overfull report hq hr hb hc hd hp ht
    hraw hflags hfull hmeasured hreport hours due band projected z hproj hband hz
  obtain ⟨hfill, hrebase, hwindow, hrate, hvalid, hlast, hlastReported, hemptied, hold⟩ :=
    stagesBeforeMeasure_keep hflags hfull
  simp only [← hfill, ← hrebase, ← hwindow, ← hrate, ← hvalid, ← hlast, ← hemptied, ← hlastReported]
    at hmeasured hreport
  have measures : (stageMeasure p t raw full).1 = measured := by
    obtain ⟨first, hm⟩ | ⟨old, hf, hn, hdrop, hm⟩ | ⟨old, new, last, hf, hn, hdrop, hl, hnew, hm⟩ := hmeasured
    · rw [stageMeasure_first first, hm]
      rfl
    · rw [stageMeasure_collects ((collects_iff hf hn).mpr hdrop), hm]
      rfl
    · rw [stageMeasure_smooths hf hn hdrop, stageSmoothing_eq hl p t raw old hnew, hm]
  obtain ⟨f, hf⟩ := Option.ne_none_iff_exists'.mp (measures ▸ (stageMeasure_keeps p t raw full).1)
  obtain ⟨fills, hfills, hraised⟩ := stageMeasure_reports measures hf (hreport f hf).1 (hreport f hf).2
  subst hraw
  have stages := stageNonBlind_eq hfull measures hfills hproj hband
  have notBlind : isBlind e.content = false := by simp [hc, isBlind, hd]
  subst ht
  rw [exec_estimation hq hr hb, ← hp, estimateRecord_nonBlind hc hd hflags, stages, hz, ← hold, ← hraised]
  simp only [State.countIntake, countBlind_of_not_blind notBlind, replaceRecord, List.append_assoc]
  rfl

end Sys2Proof.Machine
end

section
/-! PROOFS. Projection and the Urgency List (04_projection_and_the_urgency_list.md): the cases of the projection and of
the band function, what the two ordered lists hold, the seconds walk record by record, and LIST. -/

namespace Sys2Proof.Machine

/-! ## The projection -/

theorem fillReaches_iff {threshold : Nat} {fill : Option Nat} :
    fillReaches threshold fill = true ↔ ∃ f, fill = some f ∧ threshold ≤ f := by
  cases fill with
  | none => simp [fillReaches]
  | some f => simp [fillReaches]

theorem fillReaches_eq_false {threshold : Nat} {fill : Option Nat} (h : ∀ f, fill = some f → f < threshold) :
    fillReaches threshold fill = false := by
  rw [← Bool.not_eq_true, fillReaches_iff]
  rintro ⟨f, hf, ht⟩
  exact absurd (h f hf) (Nat.not_lt.mpr ht)

theorem project_at_once {threshold : Nat} {fill : Option Nat} {overfull : Bool}
    (h : overfull = true ∨ ∃ f, fill = some f ∧ threshold ≤ f) (rate : Nat) (valid : Bool) (base : Nat) :
    project fill overfull rate valid threshold base = (0, some base) :=
  if_pos (by rw [Bool.or_eq_true, fillReaches_iff]; exact h.symm)

section

variable {threshold : Nat} {fill : Option Nat} (hf : ∀ f, fill = some f → f < threshold)

include hf

theorem project_without_rate {rate : Nat} {valid : Bool} (h : valid = false ∨ rate = 0) (base : Nat) :
    project fill false rate valid threshold base = (65535, none) := by
  rw [project, fillReaches_eq_false hf, if_neg (by decide), if_pos (by simpa using h)]
  rfl

theorem project_with_rate {rate : Nat} (hr : 1 ≤ rate) (base : Nat) :
    project fill false rate true threshold base =
      (min (((threshold - fill.getD 0) * 16 + rate - 1) / rate) 65534,
        some (min (base + min (((threshold - fill.getD 0) * 16 + rate - 1) / rate) 65534 * 3600) Config.max32)) := by
  rw [project, fillReaches_eq_false hf, if_neg (by decide), if_neg (by simpa using Nat.ne_of_gt hr)]

end

/-- The quotient rounded up is the count of hours that reaches the rest, and no smaller one does (R73). -/
theorem ceiling_eq {rest rate hours : Nat} (hr : 1 ≤ rate) (hp : 1 ≤ rest) (hle : rest ≤ hours * rate)
    (hlt : (hours - 1) * rate < rest) : (rest + rate - 1) / rate = hours := by
  have hh : 1 ≤ hours := Nat.pos_of_mul_pos_right (Nat.lt_of_lt_of_le hp hle)
  rw [Nat.sub_mul, Nat.one_mul] at hlt
  refine Nat.div_eq_of_lt_le ?_ ?_
  · omega
  · rw [Nat.add_mul, Nat.one_mul]
    omega

/-! ## The band function -/

theorem bandOf_projected {hours : Nat} (h0 : hours ≠ 0) (h1 : hours ≠ 65535) (due uptime horizon : Nat) :
    bandOf hours (some due) uptime horizon =
      if due ≤ uptime then (.due, true) else if due ≤ uptime + horizon then (.soon, false) else (.later, false) :=
  (if_neg h0).trans (if_neg h1)

theorem bandOf_within {hours due uptime horizon : Nat} (h0 : hours ≠ 0) (h1 : hours ≠ 65535) :
    (due ≤ uptime → bandOf hours (some due) uptime horizon = (.due, true)) ∧
      (uptime < due → due ≤ uptime + horizon → bandOf hours (some due) uptime horizon = (.soon, false)) ∧
      (uptime + horizon < due → bandOf hours (some due) uptime horizon = (.later, false)) := by
  rw [bandOf_projected h0 h1]
  refine ⟨fun h => if_pos h, fun h hs => ?_, fun h => ?_⟩
  · rw [if_neg (by omega), if_pos hs]
  · rw [if_neg (by omega), if_neg (by omega)]

theorem bandOffer_due {before : Band} (h : before ≠ .due) : bandOffer before .due = [.due] := if_neg h

theorem bandOffer_soon {before : Band} (h : before = .later ∨ before = .none) : bandOffer before .soon = [.soon] :=
  if_pos h

/-- Settles O31: the hours are the ceiling that the two bounds pin down; the bands case by case. -/
theorem projectionAndBand : Obligations.ProjectionAndBand := by
  refine ⟨fun fill overfull rate valid threshold base => ⟨fun h => project_at_once h rate valid base, ?_, ?_⟩,
    fun due uptime horizon => ⟨rfl, rfl⟩, fun hours due uptime horizon h0 h1 => bandOf_within h0 h1,
    fun before => bandOffer_due, fun before => bandOffer_soon, rfl, rfl, rfl, fun before => ⟨rfl, rfl⟩⟩
  · rintro rfl hf hr
    exact project_without_rate hf hr base
  · rintro f hours rfl rfl hf rfl hr hmax hle hlt
    have below : ∀ g, some f = some g → g < threshold := by
      rintro g ⟨⟩
      exact hf
    have ceiling : ((threshold - f) * 16 + rate - 1) / rate = hours := ceiling_eq hr (by omega) hle hlt
    rw [project_with_rate below hr, Option.getD_some, ceiling, Nat.min_eq_left hmax]
    rfl

/-! ## The ordered lists -/

/-- A list sorted from keys that each carry their record's slot holds a slot once, so its order is strict (R76, R91). -/
theorem sortKeys_strict {t : SlotTable BinRecord} (wf : tableWf t = true) {key : Nat × BinRecord → Option (Nat × Nat)}
    (hk : ∀ p k, key p = some k → k.2 = p.1) :
    (sortKeys (t.filterMap key)).Pairwise fun x y => x.1 < y.1 ∨ x.1 = y.1 ∧ x.2 < y.2 := by
  have apart : (t.filterMap key).Pairwise fun x y => x.2 ≠ y.2 := by
    refine List.pairwise_filterMap.mpr (((tableWf_iff t).mp wf).1.imp ?_)
    intro p q hpq x hx y hy
    rw [hk p x hx, hk q y hy]
    exact Nat.ne_of_lt hpq
  have distinct := (sortKeys_perm _).symm.pairwise apart Ne.symm
  refine ((sortKeys_sorted _).and distinct).imp ?_
  rintro x y ⟨le, ne⟩
  simp only [keyLe] at le
  omega

theorem mem_sortKeys {s : State} (wf : tableWf s.bins = true) (key : Nat × BinRecord → Option (Nat × Nat))
    (k : Nat × Nat) : k ∈ sortKeys (s.bins.filterMap key) ↔ ∃ n r, s.bin n = some r ∧ key (n, r) = some k := by
  rw [(sortKeys_perm _).mem_iff, List.mem_filterMap]
  constructor
  · rintro ⟨⟨n, r⟩, hm, hk⟩
    exact ⟨n, r, tableGet_of_mem wf hm, hk⟩
  · rintro ⟨n, r, hr, hk⟩
    exact ⟨(n, r), mem_of_tableGet hr, hk⟩

theorem urgencyKey_eq_some {n : Nat} {r : BinRecord} {k : Nat × Nat} :
    urgencyKey (n, r) = some k ↔ OnUrgencyList r ∧ r.due = some k.1 ∧ k.2 = n := by
  obtain ⟨d, m⟩ := k
  by_cases h : r.band = .none ∨ r.standing = .barred
  · simp only [urgencyKey, if_pos h, reduceCtorEq, false_iff]
    exact fun ⟨⟨hb, hs⟩, _⟩ => h.elim hb hs
  · simp only [urgencyKey, if_neg h, Option.map_eq_some_iff, Prod.mk.injEq]
    rw [not_or] at h
    constructor
    · rintro ⟨d, hd, rfl, rfl⟩
      exact ⟨h, hd, rfl⟩
    · rintro ⟨-, hd, rfl⟩
      exact ⟨d, hd, rfl, rfl⟩

theorem silenceKey_eq_some {n : Nat} {r : BinRecord} {k : Nat × Nat} :
    silenceKey (n, r) = some k ↔ OnSilenceList r ∧ r.deadline = k.1 ∧ k.2 = n := by
  obtain ⟨d, m⟩ := k
  simp [silenceKey, OnSilenceList, eq_comm]

/-- What the Urgency List holds (R76). -/
theorem State.mem_urgencyList {s : State} (wf : tableWf s.bins = true) {d n : Nat} :
    (d, n) ∈ s.urgencyList ↔ ∃ r, s.bin n = some r ∧ OnUrgencyList r ∧ r.due = some d := by
  simp only [State.urgencyList, mem_sortKeys wf, urgencyKey_eq_some]
  constructor
  · rintro ⟨m, r, hr, hl, hd, rfl⟩
    exact ⟨r, hr, hl, hd⟩
  · rintro ⟨r, hr, hl, hd⟩
    exact ⟨n, r, hr, hl, hd, rfl⟩

/-- What the Silence List holds (R91). -/
theorem State.mem_silenceList {s : State} (wf : tableWf s.bins = true) {d n : Nat} :
    (d, n) ∈ s.silenceList ↔ ∃ r, s.bin n = some r ∧ OnSilenceList r ∧ r.deadline = d := by
  simp only [State.silenceList, mem_sortKeys wf, silenceKey_eq_some]
  constructor
  · rintro ⟨m, r, hr, hl, hd, rfl⟩
    exact ⟨r, hr, hl, hd⟩
  · rintro ⟨r, hr, hl, hd⟩
    exact ⟨n, r, hr, hl, hd, rfl⟩

/-- Settles O32: both lists are sorted from keys that carry their record's slot. -/
theorem orderedLists : Obligations.OrderedLists := fun _ wf =>
  ⟨fun _ _ => State.mem_urgencyList wf, sortKeys_strict wf fun _ _ hk => (urgencyKey_eq_some.mp hk).2.2,
    fun _ _ => State.mem_silenceList wf, sortKeys_strict wf fun _ _ hk => (silenceKey_eq_some.mp hk).2.2⟩

/-! ## The seconds walk -/

/-- In a list where what meets a condition stands before what does not, the entries up to the first that does not are
the ones that meet it. -/
theorem takeWhile_eq_filter {α : Type} {p : α → Bool} {l : List α} (h : l.Pairwise fun x y => p y = true → p x = true) :
    l.takeWhile p = l.filter p := by
  induction l with
  | nil => rfl
  | cons x l ih =>
    obtain ⟨first, rest⟩ := List.pairwise_cons.mp h
    cases hx : p x with
    | true => rw [List.takeWhile_cons_of_pos hx, List.filter_cons_of_pos hx, ih rest]
    | false =>
      have none_later : l.filter p = [] := List.filter_eq_nil_iff.mpr fun y hy hp => by simp [first y hy hp] at hx
      rw [List.takeWhile_cons_of_neg (by simp [hx]), List.filter_cons_of_neg (by simp [hx]), none_later]

/-- The walk visits exactly the entries due within its reach: the list is in order of due times (R76, R81). -/
theorem walkVisited_eq (u : Nat) (s : State) :
    walkVisited u s = s.urgencyList.filter fun k => k.1 ≤ u + s.soonHorizon := by
  refine takeWhile_eq_filter ((sortKeys_sorted _).imp ?_)
  intro x y hxy hy
  simp only [keyLe, decide_eq_true_eq] at hxy hy ⊢
  omega

/-- The records the walk of second `u` visits: on the Urgency List and due within the horizon `h` (R81). -/
def WithinReach (u h : Nat) (r : BinRecord) : Prop := OnUrgencyList r ∧ ∃ d, r.due = some d ∧ d ≤ u + h

/-- A record as the walk of second `u` with the horizon `h` leaves it, visited or not (R81). -/
def promoted (u h : Nat) (r : BinRecord) : BinRecord :=
  match r.due with
  | none => r
  | some d =>
    if r.standing = .barred ∨ r.band = .none ∨ r.band = .due ∨ u + h < d then r
    else if d ≤ u then { r with band := .due, projected := true }
    else if r.band = .later then { r with band := .soon }
    else r

/-- A record promoted, with its band offer: what the walk makes of a visited record. -/
def promotion (u h : Nat) (r : BinRecord) : BinRecord × List Raised :=
  (promoted u h r, bandOffer r.band (promoted u h r).band)

theorem promoted_of_not_reached {u h : Nat} {r : BinRecord} (hr : ¬WithinReach u h r) : promoted u h r = r := by
  unfold promoted
  split
  next => rfl
  next d hd =>
    refine if_pos ?_
    by_contra out
    simp only [not_or, Nat.not_lt] at out
    obtain ⟨hs, hb, -, hu⟩ := out
    exact hr ⟨⟨hb, hs⟩, d, hd, hu⟩

/-- A visited record becomes DUE at its due time, SOON from LATER before it, and stays otherwise; what it raises is the
band offer of its new band (R75, R81). -/
theorem walkRecord_eq_promotion {u h d : Nat} {r : BinRecord} (hl : OnUrgencyList r) (hd : r.due = some d)
    (hr : d ≤ u + h) : walkRecord u d r = promotion u h r := by
  obtain ⟨hb, hs⟩ := hl
  have near : ¬u + h < d := Nat.not_lt.mpr hr
  cases band : r.band with
  | none => exact absurd band hb
  | due => simp [walkRecord, promotion, promoted, bandOffer, band, hd]
  | soon =>
    by_cases now : d ≤ u
    · simp [walkRecord, promotion, promoted, bandOffer, band, hd, hs, near, now]
    · simp [walkRecord, promotion, promoted, bandOffer, band, hd, hs, now]
  | later =>
    by_cases now : d ≤ u
    · simp [walkRecord, promotion, promoted, bandOffer, band, hd, hs, near, now]
    · simp [walkRecord, promotion, promoted, bandOffer, band, hd, hs, near, now]

/-- The table after moves are put one after another. -/
def putMoves (moves : List Move) (t : SlotTable BinRecord) : SlotTable BinRecord :=
  moves.foldl (fun t m => tablePut t m.1 m.2.1) t

theorem State.putMoves_eq (moves : List Move) (s : State) :
    moves.foldl (fun t m => t.putBin m.1 m.2.1) s = s.setBins (putMoves moves s.bins) := by
  induction moves generalizing s with
  | nil => rfl
  | cons m moves ih => exact ih (s.putBin m.1 m.2.1)

theorem tableGet_putMoves_other {moves : List Move} {n : Nat} (h : ∀ m ∈ moves, m.1 ≠ n) (t : SlotTable BinRecord) :
    tableGet (putMoves moves t) n = tableGet t n := by
  induction moves generalizing t with
  | nil => rfl
  | cons m moves ih =>
    rw [List.forall_mem_cons] at h
    exact (ih h.2 _).trans (tableGet_tablePut_other t h.1 m.2.1)

/-- A slot that moves name holds what they agree to put there. -/
theorem tableGet_putMoves_same {moves : List Move} {n : Nat} {r : BinRecord} (h : ∀ m ∈ moves, m.1 = n → m.2.1 = r)
    (hn : ∃ m ∈ moves, m.1 = n) (t : SlotTable BinRecord) : tableGet (putMoves moves t) n = some r := by
  induction moves generalizing t with
  | nil => simp at hn
  | cons m moves ih =>
    rw [List.forall_mem_cons] at h
    by_cases later : ∃ m ∈ moves, m.1 = n
    · exact ih h.2 later _
    · obtain rfl : m.1 = n := by simpa [later] using hn
      have none_later : ∀ m' ∈ moves, m'.1 ≠ m.1 := fun m' hm' e => later ⟨m', hm', e⟩
      rw [← h.1 rfl]
      exact (tableGet_putMoves_other none_later (tablePut t m.1 m.2.1)).trans (tableGet_tablePut_same t m.1 m.2.1)

/-- Offers read the clock for its conversion only, so a second counted as taken does not show in them (R158). -/
theorem offersOf_walked (c : Clock) (w time slot : Nat) (r : BinRecord) (raised : List Raised) :
    offersOf { c with walked := w } time slot r raised = offersOf c time slot r raised := rfl

section

variable {s : State} (wf : tableWf s.bins = true) (u : Nat)

include wf

/-- The walk moves exactly the records within its reach, each by its promotion. -/
theorem mem_walkMoves {m : Move} :
    m ∈ walkMoves u s ↔
      ∃ r, s.bin m.1 = some r ∧ WithinReach u s.soonHorizon r ∧ m.2 = promotion u s.soonHorizon r := by
  simp only [walkMoves, walkVisited_eq, List.mem_filterMap, List.mem_filter, Option.map_eq_some_iff,
    decide_eq_true_eq]
  constructor
  · rintro ⟨⟨d, n⟩, ⟨hk, hreach⟩, r, hr, rfl⟩
    obtain ⟨r', hr', listed, due⟩ := (State.mem_urgencyList wf).mp hk
    obtain rfl : r' = r := Option.some.inj (hr'.symm.trans hr)
    exact ⟨r', hr, ⟨listed, d, due, hreach⟩, walkRecord_eq_promotion listed due hreach⟩
  · obtain ⟨n, move⟩ := m
    rintro ⟨r, hr, ⟨listed, d, due, hreach⟩, rfl⟩
    exact ⟨(d, n), ⟨(State.mem_urgencyList wf).mpr ⟨r, hr, listed, due⟩, hreach⟩, r, hr,
      by rw [walkRecord_eq_promotion listed due hreach]⟩

/-- Every record after the walk (R81). -/
theorem tableGet_walk (n : Nat) :
    tableGet (putMoves (walkMoves u s) s.bins) n = (s.bin n).map (promoted u s.soonHorizon) := by
  by_cases moved : ∃ m ∈ walkMoves u s, m.1 = n
  · obtain ⟨m, hm, rfl⟩ := moved
    obtain ⟨r, hr, -, -⟩ := (mem_walkMoves wf u).mp hm
    rw [hr, Option.map_some]
    refine tableGet_putMoves_same (fun m' hm' e => ?_) ⟨m, hm, rfl⟩ _
    obtain ⟨r', hr', -, heq⟩ := (mem_walkMoves wf u).mp hm'
    obtain rfl : r' = r := Option.some.inj ((e ▸ hr').symm.trans hr)
    rw [heq, promotion]
  · have stays : ∀ m ∈ walkMoves u s, m.1 ≠ n := fun m hm e => moved ⟨m, hm, e⟩
    rw [tableGet_putMoves_other stays]
    change s.bin n = (s.bin n).map (promoted u s.soonHorizon)
    cases hr : s.bin n with
    | none => rfl
    | some r =>
      have unreached : ¬WithinReach u s.soonHorizon r := fun hw =>
        moved ⟨(n, promotion u s.soonHorizon r), (mem_walkMoves wf u).mpr ⟨r, hr, hw, rfl⟩, rfl⟩
      rw [Option.map_some, promoted_of_not_reached unreached]

/-- What is gathered from the walk's moves, read off the Urgency List entry by entry (R82). -/
theorem flatMap_walkMoves {α : Type} (f : Move → List α) :
    (walkMoves u s).flatMap f =
      s.urgencyList.flatMap fun k =>
        if k.1 ≤ u + s.soonHorizon then (s.bin k.2).elim [] fun r => f (k.2, promotion u s.soonHorizon r) else [] := by
  rw [walkMoves, walkVisited_eq, List.filterMap_filter, List.filterMap_eq_flatMap_toList, List.flatMap_assoc]
  refine List.flatMap_congr fun k hk => ?_
  obtain ⟨r, hr, listed, due⟩ := (State.mem_urgencyList wf).mp hk
  by_cases near : k.1 ≤ u + s.soonHorizon
  · simp [near, hr, walkRecord_eq_promotion listed due near]
  · simp [near]

/-- The walk's offers: an entry's record before and after the walk says what it raises (R75, R82). -/
theorem walkMoves_offers (c : Clock) :
    ((walkMoves u s).flatMap fun m => offersOf c u m.1 m.2.1 m.2.2) =
      s.urgencyList.flatMap fun k =>
        match s.bin k.2, tableGet (putMoves (walkMoves u s) s.bins) k.2 with
        | some before, some after =>
          if k.1 ≤ u + s.soonHorizon then offersOf c u k.2 after (bandOffer before.band after.band) else []
        | _, _ => [] := by
  rw [flatMap_walkMoves wf]
  refine List.flatMap_congr fun k _ => ?_
  rw [tableGet_walk wf]
  cases s.bin k.2 with
  | none => exact ite_self []
  | some r => rfl

end

/-- Settles O33: the records and the offers of the walk's moves, the second counted as taken. -/
theorem secondsWalkPromotes : Obligations.SecondsWalkPromotes := by
  rintro s u wf waits rfl
  refine ⟨putMoves (walkMoves (s.clock.walked + 1) s) s.bins, tableGet_walk wf _, ?_⟩
  refine congrArg Host.Outcome.next ((if_pos waits).trans ?_)
  simp only [secondsWalk, applyMoves, State.putMoves_eq, State.setClock_clock, offersOf_walked,
    walkMoves_offers wf _ s.clock]
  rfl

/-! ## LIST -/

theorem listBody_fields {maximum minimum : Nat} (hm : maximum < 256) (hb : minimum < 256) (profiles : BitVec 16)
    (districts : BitVec 32) :
    byteAt (listBody maximum profiles districts minimum) 0 = maximum ∧
      BitVec.ofNat 16 (nat16At (listBody maximum profiles districts minimum) 1) = profiles ∧
      BitVec.ofNat 32 (nat32At (listBody maximum profiles districts minimum) 3) = districts ∧
      byteAt (listBody maximum profiles districts minimum) 7 = minimum := by
  have h1 : nat16At (listBody maximum profiles districts minimum) 1 = profiles.toNat :=
    nat16At_be16 profiles.isLt (be32 districts.toNat ++ [byteOf minimum])
  have h3 : nat32At (listBody maximum profiles districts minimum) 3 = districts.toNat :=
    nat32At_be32 districts.isLt [byteOf minimum]
  refine ⟨byteOf_toNat_of_lt hm, ?_, ?_, byteOf_toNat_of_lt hb⟩
  · rw [h1, BitVec.ofNat_toNat, BitVec.setWidth_eq]
  · rw [h3, BitVec.ofNat_toNat, BitVec.setWidth_eq]

theorem validMinimumBand_eq_false {n : Nat} (h : n = 0 ∨ 4 ≤ n) : validMinimumBand n = false := by
  rw [validMinimumBand, Bool.and_eq_false_iff, decide_eq_false_iff_not, decide_eq_false_iff_not]
  omega

theorem validMinimumBand_of_mem {n : Nat} (h1 : 1 ≤ n) (h3 : n ≤ 3) : validMinimumBand n = true := by
  simp [validMinimumBand, h1, h3]

/-- The bands at or above each minimum (R89). -/
theorem listMatches_eq (profiles : BitVec 16) (districts : BitVec 32) {minimum : Nat} (h1 : 1 ≤ minimum)
    (h3 : minimum ≤ 3) (r : BinRecord) :
    listMatches profiles districts minimum r =
      (profiles.getLsbD r.profile && districts.getLsbD r.district &&
        (r.band == .due || r.band == .soon && minimum ≤ 2 || r.band == .later && minimum == 1)) := by
  have only : decide (minimum ≤ 1) = (minimum == 1) := by
    rw [beq_eq_decide]
    exact decide_eq_decide.mpr (by omega)
  rw [listMatches, Bool.and_assoc (profiles.getLsbD _ && districts.getLsbD _)]
  congr 1
  cases r.band with
  | none => rfl
  | later => exact only
  | soon => exact (Bool.or_false _).symm
  | due => exact decide_eq_true h3

/-- The entries of the Urgency List with their records, in list order. -/
def State.listedRecords (s : State) : List (Nat × BinRecord) :=
  s.urgencyList.filterMap fun k => (s.bin k.2).map fun r => (k.1, r)

theorem listMatching_eq (profiles : BitVec 16) (districts : BitVec 32) (minimum : Nat) (s : State) :
    listMatching profiles districts minimum s =
      (s.listedRecords.filter fun p => listMatches profiles districts minimum p.2).map
        fun p => listEntry s.clock p.1 p.2 := by
  rw [State.listedRecords, List.filter_filterMap, List.map_filterMap, listMatching]
  refine List.filterMap_congr fun k _ => ?_
  cases s.bin k.2 with
  | none => rfl
  | some r =>
    cases h : listMatches profiles districts minimum r with
    | true => simp [h]
    | false => simp [h]

/-- Settles O34: the body's fields as read, the refusal, and the matching entries as a filter of the list's records. -/
theorem listReturnsMatching : Obligations.ListReturnsMatching := by
  intro s maximum minimum taken profiles districts hmax hmin htaken hx
  obtain ⟨field0, field1, field3, field7⟩ := listBody_fields hmax hmin profiles districts
  refine ⟨fun h => ?_, fun found h1 h3 hfound => ?_⟩
  · refine congrArg Host.Outcome.next (carryOut_answers hx rfl ?_)
    simp only [listAct, field7, validMinimumBand_eq_false h]
    rfl
  · have matching : listMatching profiles districts minimum s = found.map fun p => listEntry s.clock p.1 p.2 := by
      rw [hfound, listMatching_eq]
      simp only [listMatches_eq profiles districts h1 h3]
      rfl
    have clamped : clamp 1 32 maximum = taken := htaken.symm
    refine congrArg Host.Outcome.next (carryOut_answers hx rfl ?_)
    simp only [listAct, field0, field1, field3, field7, validMinimumBand_of_mem h1 h3, clamped, matching,
      List.length_map, List.map_take, eq_comm (a := taken)]
    rfl

end Sys2Proof.Machine
end

section
/-! PROOFS. Silence deadlines and alarms (05_silence_deadlines_and_alarms.md): the silence check record by record with
its offers, and CLEAR-ALARMS. -/

namespace Sys2Proof.Machine

/-! ## The silence check -/

/-- The records the check of second `u` finds expired: on the Silence List with a deadline at or before `u` (R94). -/
abbrev Expired (u : Nat) (r : BinRecord) : Prop := OnSilenceList r ∧ r.deadline ≤ u

/-- The check visits exactly the entries whose deadline has come: the list is in order of deadlines (R91, R94). -/
theorem checkVisited_eq (u : Nat) (s : State) : checkVisited u s = s.silenceList.filter fun k => k.1 ≤ u := by
  refine takeWhile_eq_filter ((sortKeys_sorted _).imp ?_)
  intro x y hxy hy
  simp only [keyLe, decide_eq_true_eq] at hxy hy ⊢
  omega

/-- Moves that take every record meeting a condition, and no other, through a function: what each slot then holds. -/
theorem tableGet_putMoves_of_mem {s : State} {moves : List Move} {p : BinRecord → Prop} [DecidablePred p]
    {f : BinRecord → BinRecord × List Raised}
    (hm : ∀ m, m ∈ moves ↔ ∃ r, s.bin m.1 = some r ∧ p r ∧ m.2 = f r) (n : Nat) :
    tableGet (putMoves moves s.bins) n = (s.bin n).map fun r => if p r then (f r).1 else r := by
  by_cases moved : ∃ r, s.bin n = some r ∧ p r
  · obtain ⟨r, hr, hp⟩ := moved
    rw [hr, Option.map_some, if_pos hp]
    refine tableGet_putMoves_same (fun m h e => ?_) ⟨(n, f r), (hm _).mpr ⟨r, hr, hp, rfl⟩, rfl⟩ _
    obtain ⟨r', hr', -, heq⟩ := (hm m).mp h
    obtain rfl : r' = r := Option.some.inj ((e ▸ hr').symm.trans hr)
    rw [heq]
  · have stays : ∀ m ∈ moves, m.1 ≠ n := by
      rintro m h rfl
      obtain ⟨r, hr, hp, -⟩ := (hm m).mp h
      exact moved ⟨r, hr, hp⟩
    refine (tableGet_putMoves_other stays s.bins).trans ?_
    change s.bin n = _
    cases hr : s.bin n with
    | none => rfl
    | some r => rw [Option.map_some, if_neg fun hp => moved ⟨r, hr, hp⟩]

/-- What the check offers for an entry of slot `n` with deadline `d`, from the slot before and after it: one ALARM when
the deadline has come and the latch was clear (R95). -/
def lapseOffers (c : Clock) (u d n : Nat) (before after : Option BinRecord) : List Offer :=
  match before, after with
  | some before, some after =>
    if d ≤ u ∧ before.latches.lapse = false then offersOf c u n after [.alarm .lapse] else []
  | _, _ => []

/-- An expired record's offers are those of its expiry (R94, R95). -/
theorem lapseOffers_expired (c : Clock) {u d : Nat} (n : Nat) (r : BinRecord) (hd : d ≤ u) :
    lapseOffers c u d n (some r) (some (expireRecord r).1) =
      offersOf c u n (expireRecord r).1 (expireRecord r).2 := by
  cases latched : r.latches.lapse with
  | true => simp [lapseOffers, expireRecord, offersOf, latched]
  | false => simp [lapseOffers, expireRecord, latched, hd]

theorem lapseOffers_not_due (c : Clock) {u d : Nat} (n : Nat) (r r' : BinRecord) (hd : ¬d ≤ u) :
    lapseOffers c u d n (some r) (some r') = [] := if_neg fun h => hd h.1

/-- Offers read the clock for its conversion only, so a second counted as checked does not show in them (R158). -/
theorem offersOf_checked (c : Clock) (w time slot : Nat) (r : BinRecord) (raised : List Raised) :
    offersOf { c with checked := w } time slot r raised = offersOf c time slot r raised := rfl

section

variable {s : State} (wf : tableWf s.bins = true) (u : Nat)

include wf

/-- The check moves exactly the expired records, each by its expiry (R94). -/
theorem mem_checkMoves (m : Move) :
    m ∈ checkMoves u s ↔ ∃ r, s.bin m.1 = some r ∧ Expired u r ∧ m.2 = expireRecord r := by
  simp only [checkMoves, checkVisited_eq, List.mem_filterMap, List.mem_filter, Option.map_eq_some_iff,
    decide_eq_true_eq]
  constructor
  · rintro ⟨⟨d, n⟩, ⟨hk, come⟩, r, hr, rfl⟩
    obtain ⟨r', hr', listed, rfl⟩ := (State.mem_silenceList wf).mp hk
    obtain rfl : r' = r := Option.some.inj (hr'.symm.trans hr)
    exact ⟨r', hr, ⟨listed, come⟩, rfl⟩
  · obtain ⟨n, move⟩ := m
    rintro ⟨r, hr, ⟨listed, come⟩, rfl⟩
    exact ⟨(r.deadline, n), ⟨(State.mem_silenceList wf).mpr ⟨r, hr, listed, rfl⟩, come⟩, r, hr, rfl⟩

/-- Every record after the check (R94). -/
theorem tableGet_check (n : Nat) :
    tableGet (putMoves (checkMoves u s) s.bins) n =
      (s.bin n).map fun r => if Expired u r then (expireRecord r).1 else r :=
  tableGet_putMoves_of_mem (mem_checkMoves wf u) n

/-- The check's offers, read off the Silence List entry by entry (R95). -/
theorem checkMoves_offers (c : Clock) :
    ((checkMoves u s).flatMap fun m => offersOf c u m.1 m.2.1 m.2.2) =
      s.silenceList.flatMap fun k =>
        lapseOffers c u k.1 k.2 (s.bin k.2) (tableGet (putMoves (checkMoves u s) s.bins) k.2) := by
  simp only [tableGet_check wf]
  rw [checkMoves, checkVisited_eq, List.filterMap_filter, List.filterMap_eq_flatMap_toList, List.flatMap_assoc]
  refine List.flatMap_congr fun k hk => ?_
  obtain ⟨r, hr, listed, deadline⟩ := (State.mem_silenceList wf).mp hk
  by_cases come : k.1 ≤ u
  · have expired : Expired u r := ⟨listed, deadline.trans_le come⟩
    simp [come, hr, if_pos expired, lapseOffers_expired]
  · simp [come, hr, lapseOffers_not_due]

end

/-- Settles O35: the records and the offers of the check's moves, the second counted as taken. -/
theorem silenceCheckExpires : Obligations.SilenceCheckExpires := by
  rintro s u wf waits rfl
  refine ⟨putMoves (checkMoves (s.clock.checked + 1) s) s.bins, tableGet_check wf _, ?_⟩
  refine congrArg Host.Outcome.next ((if_pos waits).trans ?_)
  simp only [silenceCheck, applyMoves, State.putMoves_eq, State.setClock_clock, offersOf_checked]
  exact congrArg (settleAll · _) (checkMoves_offers wf _ s.clock)

/-! ## CLEAR-ALARMS -/

/-- The alarms a CLEAR-ALARMS mask names, bit by bit (R101). -/
def alarmsNamed (mask : Nat) : AlarmSet :=
  { lid := mask.testBit 0
    tilt := mask.testBit 1
    overfull := mask.testBit 2
    lapse := mask.testBit 3 }

theorem ofByte_byteOf (mask : Nat) : AlarmSet.ofByte (byteOf mask) = alarmsNamed mask := by
  simp only [AlarmSet.ofByte, byteOf, alarmsNamed, BitVec.getLsbD_ofNat, Nat.reduceLT, decide_true,
    Bool.true_and]

/-- The body's mask as read: the number for the RANGE check, the alarms it names for the clearing (R101). -/
theorem clearAlarmsBody_fields (id : Identity) {mask : Nat} (hm : mask < 256) :
    identityAt (clearAlarmsBody id mask) 0 = id ∧ byteAt (clearAlarmsBody id mask) 4 = mask ∧
      AlarmSet.ofByte ((clearAlarmsBody id mask).getD 4 0) = alarmsNamed mask :=
  ⟨identityAt_be32 id _, byteOf_toNat_of_lt hm, ofByte_byteOf mask⟩

/-- The reply is PERSISTING exactly when an alarm is both named and latched (R102). -/
theorem clearAlarmsStatus_eq (mask latches : AlarmSet) :
    (if (mask.inter latches).isEmpty then Status.ok else .persisting) =
      if mask.lid && latches.lid || mask.tilt && latches.tilt || mask.overfull && latches.overfull ||
          mask.lapse && latches.lapse then .persisting else .ok := by
  simp only [AlarmSet.isEmpty, AlarmSet.inter, Bool.not_eq_true', ← Bool.not_eq_true, ite_not]

section

variable {s : State} {id : Identity} {mask : Nat} (hm : mask < 256)

include hm

theorem clearAlarmsAct_range (h : id = 0#32 ∨ id = 0xFFFFFFFF#32 ∨ 16 ≤ mask) :
    clearAlarmsAct (clearAlarmsBody id mask) s = (s, .refusedIdentity .range id) := by
  obtain ⟨field0, field4, -⟩ := clearAlarmsBody_fields id hm
  simp only [clearAlarmsAct, field0, field4]
  cases valid : validIdentity id with
  | false => rfl
  | true =>
    obtain ⟨h0, h1⟩ := (validIdentity_iff id).mp valid
    have beyond : 16 ≤ mask := (h.resolve_left h0).resolve_left h1
    simp [beyond]

variable (h0 : id ≠ 0#32) (h1 : id ≠ 0xFFFFFFFF#32) (h16 : mask < 16)

include h0 h1 h16

theorem clearAlarmsAct_not_held (hf : s.find id = none) :
    clearAlarmsAct (clearAlarmsBody id mask) s = (s, .refusedIdentity .noSuchBin id) := by
  obtain ⟨field0, field4, -⟩ := clearAlarmsBody_fields id hm
  simp [clearAlarmsAct, field0, field4, (validIdentity_iff id).mpr ⟨h0, h1⟩, Nat.not_le.mpr h16, hf]

/-- An identity held has the named latches whose condition is absent cleared, and the status read off the new ones
(R101, R102). -/
theorem clearAlarmsAct_clears {slot : Nat} {r : BinRecord} {latches : AlarmSet} (hf : s.find id = some (slot, r))
    (hl : latches = clearLatches (alarmsNamed mask) r.conditions r.latches) :
    clearAlarmsAct (clearAlarmsBody id mask) s =
      (s.putBin slot { r with latches := latches },
        .alarms (if ((alarmsNamed mask).inter latches).isEmpty then .ok else .persisting) id latches
          r.conditions) := by
  obtain ⟨field0, field4, named⟩ := clearAlarmsBody_fields id hm
  simp only [clearAlarmsAct, field0, field4, named, (validIdentity_iff id).mpr ⟨h0, h1⟩, Bool.not_true,
    Bool.false_eq_true, if_false, Nat.not_le.mpr h16, hf, hl]

end

theorem clearAlarmsBody_length (id : Identity) (mask : Nat) :
    fixedLength 5 (clearAlarmsBody id mask).length = true := rfl

/-- Settles O36: the refusals in order, and the latches and the status in the mask's bits. -/
theorem clearAlarmsClears : Obligations.ClearAlarmsClears := by
  intro s id mask hm hx
  have len := clearAlarmsBody_length id mask
  refine ⟨fun h => congrArg Host.Outcome.next ?_, fun h0 h1 h16 hf => congrArg Host.Outcome.next ?_,
    fun slot r latches h0 h1 h16 hf hl => congrArg Host.Outcome.next ?_⟩
  · exact carryOut_answers hx len (clearAlarmsAct_range hm h)
  · exact carryOut_answers hx len (clearAlarmsAct_not_held hm h0 h1 h16 hf)
  · refine (carryOut_acts hx len).trans ?_
    rw [clearAlarmsAct_clears hm h0 h1 h16 hf hl, clearAlarmsStatus_eq]
    rfl

end Sys2Proof.Machine
end

section
/-! PROOFS. The Stranger List (06_the_stranger_list.md): the owners' rows with no second waiting, the stranger aging, and
DISMISS on a list split at the entry. -/

namespace Sys2Proof.Machine

/-! ## The owners' rows and the stranger aging -/

section

variable {s : State}

theorem exec_secondsWalk_idle (h : s.clock.uptime ≤ s.clock.walked) : exec .secondsWalk s = .next s :=
  congrArg Host.Outcome.next (if_neg (Nat.not_lt.mpr h))

theorem exec_silenceCheck_idle (h : s.clock.uptime ≤ s.clock.checked) : exec .silenceCheck s = .next s :=
  congrArg Host.Outcome.next (if_neg (Nat.not_lt.mpr h))

theorem exec_strangerAging_idle (h : s.clock.uptime ≤ s.clock.aged) : exec .strangerAging s = .next s :=
  congrArg Host.Outcome.next (if_neg (Nat.not_lt.mpr h))

theorem exec_strangerAging_waiting (h : s.clock.aged < s.clock.uptime) :
    exec .strangerAging s = .next (strangerAging s) :=
  congrArg Host.Outcome.next (if_pos h)

end

/-- Settles O37: the aging of a second that waits, and the three rows when none waits for their owner. -/
theorem strangerAgingRemoves : Obligations.StrangerAgingRemoves := by
  refine ⟨fun s u waits hu => ?_,
    fun s => ⟨exec_secondsWalk_idle, exec_silenceCheck_idle, exec_strangerAging_idle⟩⟩
  rw [exec_strangerAging_waiting waits, strangerAging, ← hu]
  rfl

/-! ## A list split at the entry of an identity -/

section

variable {s : State} {id : Identity} {before after : List StrangerEntry} {e : StrangerEntry}
  (he : e.identity = id) (split : s.strangers.entries = before ++ e :: after) (hb : ∀ x ∈ before, x.identity ≠ id)

include he split hb

theorem State.stranger_of_split : s.stranger id = some e :=
  List.find?_eq_some_iff_append.mpr ⟨beq_iff_eq.mpr he, before, after, split, fun x hx => by simp [hb x hx]⟩

/-- The entry goes, and what stands before and behind it closes up in order (R115). -/
theorem State.dropStranger_of_split (ha : ∀ x ∈ after, x.identity ≠ id) :
    s.dropStranger id = s.setStrangers { s.strangers with entries := before ++ after } := by
  have keptBefore : (before.filter fun x => x.identity != id) = before :=
    List.filter_eq_self.mpr fun x hx => bne_iff_ne.mpr (hb x hx)
  have keptAfter : (after.filter fun x => x.identity != id) = after :=
    List.filter_eq_self.mpr fun x hx => bne_iff_ne.mpr (ha x hx)
  have kept : (s.strangers.entries.filter fun x => x.identity != id) = before ++ after := by
    rw [split, List.filter_append, keptBefore, List.filter_cons_of_neg (by simp [he]), keptAfter]
  rw [State.dropStranger, kept]

end

/-! ## DISMISS -/

section

variable {s : State} {id : Identity}

theorem dismissAct_range (h : id = 0#32 ∨ id = 0xFFFFFFFF#32) :
    dismissAct (identityBody id) s = (s, .refusedIdentity .range id) := by
  simp [dismissAct, identityAt_identityBody, (validIdentity_eq_false_iff id).mpr h]

variable (h0 : id ≠ 0#32) (h1 : id ≠ 0xFFFFFFFF#32)

include h0 h1

theorem dismissAct_not_listed (hn : s.stranger id = none) :
    dismissAct (identityBody id) s = (s, .refusedIdentity .noSuchBin id) := by
  simp [dismissAct, identityAt_identityBody, (validIdentity_iff id).mpr ⟨h0, h1⟩, hn]

theorem dismissAct_listed {e : StrangerEntry} (hs : s.stranger id = some e) :
    dismissAct (identityBody id) s =
      (s.dropStranger id, .dismissed (!s.clock.isSet) (stampEntry s.clock e)) := by
  simp [dismissAct, identityAt_identityBody, (validIdentity_iff id).mpr ⟨h0, h1⟩, hs]

end

/-- Settles O38: the two refusals, and the removal of the entry the list is split at. -/
theorem dismissRemovesEntry : Obligations.DismissRemovesEntry := by
  intro s id hx
  have len := identityBody_length id
  refine ⟨fun h => congrArg Host.Outcome.next ?_, fun h0 h1 hn => congrArg Host.Outcome.next ?_,
    fun before after e h0 h1 he split hb ha => congrArg Host.Outcome.next ?_⟩
  · exact carryOut_answers hx len (dismissAct_range h)
  · exact carryOut_answers hx len (dismissAct_not_listed h0 h1 ((State.stranger_eq_none_iff s id).mpr hn))
  · refine (carryOut_acts hx len).trans ?_
    rw [dismissAct_listed h0 h1 (State.stranger_of_split he split hb), State.dropStranger_of_split he split hb ha]
    rfl

end Sys2Proof.Machine
end

section
/-! PROOFS. Report Channels (07_report_channels.md): an offer judged on one channel, the copies a flush discards, and
the commands on a channel, CHANNEL-SET and CREDIT. -/

namespace Sys2Proof.Machine

/-! ## Offers on one channel -/

/-- A channel matches an offer of a channel kind: it is enabled, and both masks and filters let it through (R125). -/
theorem offerMatches_iff {ch : Channel} {b : ReportBody} {kind : ChannelKind} (hk : b.channelKind = some kind) :
    offerMatches ch b = true ↔
      ch.enabled = true ∧ ch.kindMask.getLsbD kind.bit = true ∧
        ∀ x, b.summary = some x →
          ch.profileMask.getLsbD x.profile = true ∧ ch.districtMask.getLsbD x.district = true := by
  unfold offerMatches
  rw [hk]
  cases b.summary with
  | none => simp
  | some x => simp [and_assoc]

/-- The condition of each priority (R128). -/
theorem admits_low (free : Nat) (ch : Channel) :
    admits .low free ch = true ↔ 32 ≤ free ∧ ch.queue.length < 48 ∧ ch.shedThreshold < ch.credit := by
  simp [admits, and_assoc]

theorem admits_normal (free : Nat) (ch : Channel) :
    admits .normal free ch = true ↔ 8 ≤ free ∧ ch.queue.length < 64 := by
  simp only [admits, Bool.and_eq_true, decide_eq_true_eq]
  rfl

theorem admits_high (free : Nat) (ch : Channel) :
    admits .high free ch = true ↔ 1 ≤ free ∧ ch.queue.length < 64 := by
  simp only [admits, Bool.and_eq_true, decide_eq_true_eq]
  rfl

section

variable {s : State} {o : Offer} {c : Fin 8}

theorem settleOn_of_not_matches (h : ¬offerMatches (s.channel c) o.report.body = true) : settleOn o s c = s := if_neg h

theorem settleOn_of_admits (h : offerMatches (s.channel c) o.report.body = true)
    (ha : admits o.report.body.priority s.poolFree (s.channel c) = true) : settleOn o s c = queueCopy o c s :=
  (if_pos h).trans (if_pos ha)

theorem settleOn_of_not_admits (h : offerMatches (s.channel c) o.report.body = true)
    (ha : ¬admits o.report.body.priority s.poolFree (s.channel c) = true) : settleOn o s c = shedCopy o c s :=
  (if_pos h).trans (if_neg ha)

/-- A copy queued, read from what the offer concerns (R121, R132). -/
theorem eq_queueCopy {t : State}
    (plain : o.concerns = none →
      t = s.putChannel c { s.channel c with queue := (s.channel c).queue ++ [⟨o.report, .absent⟩] })
    (attached : ∀ slot, o.concerns = some slot →
      t = (s.putChannel c
        { s.channel c with queue := (s.channel c).queue ++ [⟨o.report, .attached slot⟩] }).clearOwed c slot) :
    queueCopy o c s = t := by
  cases ho : o.concerns with
  | none => simp only [queueCopy, copyOf, ho, plain ho]
  | some slot => simp only [queueCopy, copyOf, ho, attached slot ho]

/-- A copy shed, read from what the offer concerns (R130). -/
theorem eq_shedCopy {t : State} {counters : ChannelCounters}
    (hc : counters = raiseShed o.report.body.priority (s.channel c).counters)
    (plain : o.concerns = none → t = s.putChannel c { s.channel c with counters := counters })
    (attached : ∀ slot, o.concerns = some slot →
      t = (s.putChannel c { s.channel c with counters := counters }).setOwed c slot) :
    shedCopy o c s = t := by
  subst hc
  cases ho : o.concerns with
  | none => simp only [shedCopy, ho, plain ho]
  | some slot => simp only [shedCopy, ho, attached slot ho]

end

/-- Settles O40: the filters decide whether the offer is judged, and the condition of its priority whether its copy is
queued or shed. -/
theorem offerSettledOnChannel : Obligations.OfferSettledOnChannel := by
  refine ⟨⟨fun _ _ => rfl, fun _ => rfl, fun _ _ _ => rfl⟩, fun s queued shed o c kind hk => ⟨fun hout => ?_,
    fun he hm hf plain attached => ?_, fun counters he hm hf hshed plain attached => ?_⟩⟩
  · refine settleOn_of_not_matches fun hmatch => ?_
    obtain ⟨he, hm, hf⟩ := (offerMatches_iff hk).mp hmatch
    obtain h | h | ⟨b, hb, h⟩ := hout
    · simp [he] at h
    · simp [hm] at h
    · obtain ⟨hp, hd⟩ := hf b hb
      simp only [hp, hd, Bool.true_eq_false, or_self] at h
  · have hmatch := (offerMatches_iff hk).mpr ⟨he, hm, hf⟩
    have queues (ha : admits o.report.body.priority (256 - s.queued) (s.channel c) = true) :
        settleOn o s c = queued := (settleOn_of_admits hmatch ha).trans (eq_queueCopy plain attached)
    refine ⟨fun hp room => queues ?_, fun hp room => queues ?_, fun hp room => queues ?_⟩
    · rw [hp]; exact (admits_low ..).mpr room
    · rw [hp]; exact (admits_normal ..).mpr room
    · rw [hp]; exact (admits_high ..).mpr room
  · have hmatch := (offerMatches_iff hk).mpr ⟨he, hm, hf⟩
    have sheds (ha : ¬admits o.report.body.priority (256 - s.queued) (s.channel c) = true)
        (hc : counters = raiseShed o.report.body.priority (s.channel c).counters) : settleOn o s c = shed :=
      (settleOn_of_not_admits hmatch ha).trans (eq_shedCopy hc plain attached)
    obtain ⟨hp, full, hc⟩ | ⟨hp, full, hc⟩ | ⟨hp, full, hc⟩ := hshed
    · exact sheds (by rw [hp, admits_low]; omega) (by rw [hp, hc]; rfl)
    · exact sheds (by rw [hp, admits_normal]; omega) (by rw [hp, hc]; rfl)
    · exact sheds (by rw [hp, admits_high]; omega) (by rw [hp, hc]; rfl)

/-! ## The bodies of CHANNEL-SET and CREDIT -/

@[simp] theorem index8_val (i : Fin 8) : index8 i.val = some i := by
  simp [index8]

theorem index8_eq_none {n : Nat} (h : 8 ≤ n) : index8 n = none := if_neg (by omega)

/-- The fields of a CHANNEL-SET body as the part reads them (R182). -/
theorem channelSetBody_fields {channel enabled threshold : Nat} (hc : channel < 256) (he : enabled < 256)
    (ht : threshold < 256) (kinds : Byte) (profiles : BitVec 16) (districts : BitVec 32) :
    byteAt (channelSetBody channel enabled kinds profiles districts threshold) 0 = channel ∧
      byteAt (channelSetBody channel enabled kinds profiles districts threshold) 1 = enabled ∧
      nat16At (channelSetBody channel enabled kinds profiles districts threshold) 3 = profiles.toNat ∧
      nat32At (channelSetBody channel enabled kinds profiles districts threshold) 5 = districts.toNat ∧
      byteAt (channelSetBody channel enabled kinds profiles districts threshold) 9 = threshold :=
  ⟨byteOf_toNat_of_lt hc, byteOf_toNat_of_lt he,
    nat16At_be16 profiles.isLt (be32 districts.toNat ++ [byteOf threshold]),
    nat32At_be32 districts.isLt [byteOf threshold], byteOf_toNat_of_lt ht⟩

theorem creditBody_fields {channel amount : Nat} (hc : channel < 256) (ha : amount < 65536) :
    byteAt (creditBody channel amount) 0 = channel ∧ nat16At (creditBody channel amount) 1 = amount :=
  ⟨byteOf_toNat_of_lt hc, nat16At_be16 ha []⟩

/-- The refusals of CHANNEL-SET (R123). -/
theorem channelSetAct_range {s : State} {body : List Byte}
    (h : index8 (byteAt body 0) = none ∨ readYesNo (byteAt body 1) = none ∨ 128 ≤ byteAt body 2) :
    channelSetAct body s = (s, .refusedIndex .range (body.getD 0 0)) := by
  unfold channelSetAct
  split
  next c enabled hc he =>
    obtain h | h | h := h
    · rw [h] at hc; cases hc
    · rw [h] at he; cases he
    · exact if_pos h
  next => rfl

/-- An accepted CHANNEL-SET (R123). -/
theorem channelSetAct_accepts (s : State) (c : Fin 8) {enabled threshold : Nat} (he : enabled < 2)
    (ht : threshold < 256) {kinds : Byte} (hk : kinds.toNat < 128) (profiles : BitVec 16) (districts : BitVec 32)
    {x : ChannelConfig} (hx : x = ⟨decide (enabled = 1), kinds, profiles, districts, threshold⟩) :
    channelSetAct (channelSetBody c enabled kinds profiles districts threshold) s =
      (setChannel c x s, .channel c x (s.channel c).credit (flushedBy c x s)) := by
  obtain ⟨h0, h1, h3, h5, h9⟩ :=
    channelSetBody_fields (by omega : c.val < 256) (by omega : enabled < 256) ht kinds profiles districts
  have h2 : ¬128 ≤ byteAt (channelSetBody c enabled kinds profiles districts threshold) 2 := Nat.not_le.mpr hk
  simp only [channelSetAct, h0, h1, h3, h5, h9, index8_val, readYesNo_of_lt he, if_neg h2, BitVec.ofNat_toNat,
    BitVec.setWidth_eq]
  rw [hx]
  rfl

/-! ## CHANNEL-SET and CREDIT -/

/-- A configuration that leaves no enabled channel disabled is stored, and nothing is flushed (R123). -/
theorem setChannel_stores {s : State} {c : Fin 8} {x : ChannelConfig}
    (h : (s.channel c).enabled = true → x.enabled = true) :
    setChannel c x s = s.putChannel c (configured x (s.channel c)) ∧ flushedBy c x s = 0 := by
  have stays : ¬((s.channel c).enabled && !x.enabled) = true := by simpa using h
  exact ⟨if_neg stays, if_neg stays⟩

/-- Settles O42: the body reads back as its fields; then the three refusals, or the configuration stored. -/
theorem channelSetStores : Obligations.ChannelSetStores := by
  intro s channel enabled threshold kinds profiles districts hc he ht hx
  obtain ⟨h0, h1, -⟩ := channelSetBody_fields hc he ht kinds profiles districts
  refine ⟨fun hout => congrArg Host.Outcome.next (carryOut_answers hx rfl (channelSetAct_range ?_)), ?_⟩
  · rw [h0, h1]
    obtain h | h | h := hout
    · exact .inl (index8_eq_none h)
    · exact .inr (.inl (readYesNo_eq_none h))
    · exact .inr (.inr h)
  · rintro c rfl h2 hk stays
    obtain ⟨stored, nothing⟩ := setChannel_stores (x := ⟨decide (enabled = 1), kinds, profiles, districts, threshold⟩)
      fun on => decide_eq_true (stays on)
    refine congrArg Host.Outcome.next ((carryOut_acts hx rfl).trans ?_)
    rw [channelSetAct_accepts s c h2 ht hk profiles districts rfl, stored, nothing]
    rfl

theorem creditAct_range {s : State} {body : List Byte} (h : index8 (byteAt body 0) = none) :
    creditAct body s = (s, .refusedIndex .range (body.getD 0 0)) := by
  rw [creditAct, h]

/-- Settles O43: an index of 8 or more is refused, else the amount read, at least 1, is added. -/
theorem creditAdds : Obligations.CreditAdds := by
  intro s channel amount hc ha hx
  obtain ⟨h0, h1⟩ := creditBody_fields hc ha
  refine ⟨fun h8 => congrArg Host.Outcome.next (carryOut_answers hx rfl (creditAct_range ?_)), ?_⟩
  · rw [h0, index8_eq_none h8]
  · rintro c sum rfl rfl
    refine congrArg Host.Outcome.next ((carryOut_acts hx rfl).trans ?_)
    simp only [creditAct, h0, h1, index8_val]
    rfl

/-! ## Disabling a channel -/

theorem State.putChannel_putChannel (s : State) (c : Fin 8) (x y : Channel) :
    (s.putChannel c x).putChannel c y = s.putChannel c y := by
  simp [State.putChannel, State.setReports]

/-- Copies discarded write nothing but the records (R131). -/
theorem discardCopies_eq_setBins (c : Fin 8) (copies : List Copy) (s : State) :
    discardCopies c copies s = s.setBins (discardCopies c copies s).bins := by
  induction copies generalizing s with
  | nil => rfl
  | cons k copies ih =>
    have one : discardCopy c s k = s.setBins (discardCopy c s k).bins := by
      unfold discardCopy
      split <;> rfl
    calc discardCopies c (k :: copies) s
        = (discardCopy c s k).setBins (discardCopies c copies (discardCopy c s k)).bins := ih _
      _ = (s.setBins (discardCopy c s k).bins).setBins (discardCopies c copies (discardCopy c s k)).bins :=
          congrArg (State.setBins · (discardCopies c copies (discardCopy c s k)).bins) one
      _ = s.setBins (discardCopies c (k :: copies) s).bins := rfl

/-- What a flush keeps and discards: the head stays exactly while it is in transmission (R124, R136). -/
theorem keptCopies_flushedCopies {s : State} {c : Fin 8} {kept flushed : List Copy}
    (hq : (s.channel c).queue = kept ++ flushed)
    (sends : (∃ frame, s.link.transmitter = .sending (.channel c) frame) → kept.length = 1)
    (idles : (¬∃ frame, s.link.transmitter = .sending (.channel c) frame) → kept = []) :
    s.keptCopies c = kept ∧ s.flushedCopies c = flushed := by
  rw [State.keptCopies, State.flushedCopies, hq]
  split
  next h =>
    have one := sends (State.sendsFor_iff.mp h)
    exact ⟨List.take_left' one, List.drop_left' one⟩
  next h =>
    rw [idles fun hf => h (State.sendsFor_iff.mpr hf)]
    exact ⟨rfl, rfl⟩

/-- A channel configured anew and flushed, written at once (R123, R124). -/
theorem flush_configured {s : State} {c : Fin 8} {kept flushed : List Copy} (hk : s.keptCopies c = kept)
    (hf : s.flushedCopies c = flushed) (x : ChannelConfig) :
    flush c (s.putChannel c (configured x (s.channel c))) =
      discardCopies c flushed (s.putChannel c
        { configured x (s.channel c) with
          queue := kept
          counters :=
            { (s.channel c).counters with
              flushed := raise32 (s.channel c).counters.flushed flushed.length } }) := by
  have hk' : (s.putChannel c (configured x (s.channel c))).keptCopies c = kept := by
    rw [← hk]
    exact keptCopies_putChannel s c rfl
  have hf' : (s.putChannel c (configured x (s.channel c))).flushedCopies c = flushed := by
    rw [← hf, State.flushedCopies, State.putChannel_channel_same]
    rfl
  rw [flush, hk', hf', State.putChannel_channel_same, State.putChannel_putChannel]
  rfl

/-- A configuration that disables an enabled channel (R124). -/
theorem setChannel_disables {s : State} {c : Fin 8} {x : ChannelConfig} (on : (s.channel c).enabled = true)
    (off : x.enabled = false) :
    setChannel c x s = disableChannel c (s.putChannel c (configured x (s.channel c))) ∧
      flushedBy c x s = (s.flushedCopies c).length := by
  have disables : ((s.channel c).enabled && !x.enabled) = true := by simp [on, off]
  exact ⟨if_pos disables, if_pos disables⟩

/-- A sweep in progress on the channel ends with it, one on another channel is notified (R149, R152). -/
theorem disableChannel_eq (c : Fin 8) (s : State) :
    disableChannel c s =
      if s.sweep.state ≠ .idle ∧ s.sweep.channel = c then
        (flush c s).setSweep { s.sweep with state := .idle, lastEnd := .channelOff }
      else notifySweep (flush c s) := by
  simp only [disableChannel, sweepsOn, Bool.and_eq_true, bne_iff_ne, beq_iff_eq, sweepChannelOff,
    (offersOnly_flush c s).sweep]

/-- Settles O41: discarded copies are one pass over the records; a disabling CHANNEL-SET flushes what is not in
transmission, then ends or notifies the sweep. -/
theorem channelDisableFlushes : Obligations.ChannelDisableFlushes := by
  refine ⟨fun c copies s => ?_, ?_⟩
  · rw [discardCopies_eq_setBins, discardCopies_bins]
    refine congrArg s.setBins (List.map_congr_left fun p _ => ?_)
    unfold owedAfter
    split <;> rfl
  · rintro s t c kinds profiles districts threshold kept flushed ht hk on hx hq sends idles rfl
    obtain ⟨hkept, hflushed⟩ := keptCopies_flushedCopies hq sends idles
    obtain ⟨disables, counted⟩ := setChannel_disables (x := ⟨false, kinds, profiles, districts, threshold⟩) on rfl
    refine congrArg Host.Outcome.next ((carryOut_acts hx rfl).trans ?_)
    have accepted := channelSetAct_accepts s c (enabled := 0) (by decide) ht hk profiles districts
      (x := ⟨false, kinds, profiles, districts, threshold⟩) rfl
    rw [accepted, disables, counted, hflushed, disableChannel_eq, flush_configured hkept hflushed]
    rfl

end Sys2Proof.Machine
end

section
/-! PROOFS. Sweeps (08_sweeps.md): the SWEEP_END placement and the notifications, SWEEP-ABORT, and the visit of a
slot. -/

namespace Sys2Proof.Machine

/-! ## SWEEP_END -/

/-- The NORMAL condition on the sweep's channel (R129). -/
theorem sweepHasRoom_iff (s : State) :
    s.sweepHasRoom = true ↔ 8 ≤ 256 - s.queued ∧ (s.channel s.sweep.channel).queue.length < 64 := admits_normal ..

theorem judgeSweepEnd_room {s : State} (h : s.sweepHasRoom = true) :
    judgeSweepEnd s =
      (queueCopy (sweepEndOffer s) s.sweep.channel s).setSweep
        { s.sweep with state := .idle, lastEnd := s.sweep.pendingEnd.reason } := if_pos h

theorem judgeSweepEnd_full {s : State} (h : ¬s.sweepHasRoom = true) : judgeSweepEnd s = s := if_neg h

/-- The placement keeps the cursor (R150). -/
theorem judgeSweepEnd_cursor (s : State) : (judgeSweepEnd s).sweep.cursor = s.sweep.cursor := by
  obtain ⟨-, e⟩ | ⟨-, e⟩ := judgeSweepEnd_cases s
  · rw [e]; rfl
  · rw [e]

theorem exec_sweepEndPlacement_closing {s : State} (h : s.sweep.state = .closing) :
    exec .sweepEndPlacement s = .next (judgeSweepEnd s) := congrArg Host.Outcome.next (if_pos h)

theorem notifySweep_closing {s : State} (h : s.sweep.state = .closing) : notifySweep s = judgeSweepEnd s := by
  simp only [notifySweep, h]

theorem notifySweep_waiting {s : State} (h : s.sweep.state = .waiting) :
    notifySweep s = s.setSweep { s.sweep with state := .running } := by
  simp only [notifySweep, h]

theorem notifySweep_others {s : State} (h : s.sweep.state = .idle ∨ s.sweep.state = .running) : notifySweep s = s := by
  obtain h | h := h
  · simp only [notifySweep, h]
  · simp only [notifySweep, h]

/-! ## SWEEP-ABORT -/

theorem sweepAbortAct_idle {s : State} (h : s.sweep.state = .idle) (body : List Byte) :
    sweepAbortAct body s = (s, .sweep .notRunning .idle s.sweep.cursor) := by
  simp only [sweepAbortAct, sweepReply, h]

theorem sweepAbortAct_closing {s : State} (h : s.sweep.state = .closing) (body : List Byte) :
    sweepAbortAct body s = (s, .sweep .ok .closing s.sweep.cursor) := by
  simp only [sweepAbortAct, sweepReply, h]

/-- A RUNNING or WAITING sweep enters CLOSING, and the reply carries its state and its cursor (R151). -/
theorem sweepAbortAct_closes {s : State} (h : s.sweep.state = .running ∨ s.sweep.state = .waiting)
    (body : List Byte) :
    sweepAbortAct body s =
      (enterClosing .aborted s, .sweep .ok (enterClosing .aborted s).sweep.state s.sweep.cursor) := by
  have cursor : (enterClosing .aborted s).sweep.cursor = s.sweep.cursor := judgeSweepEnd_cursor _
  obtain h | h := h
  · simp only [sweepAbortAct, sweepReply, h, cursor]
  · simp only [sweepAbortAct, sweepReply, h, cursor]

/-- Settles O47: a CLOSING sweep's SWEEP_END is judged by the room on its channel, by its own row and by a notification
alike; then SWEEP-ABORT by the state it is taken in. -/
theorem sweepCloses : Obligations.SweepCloses := by
  refine ⟨?_, fun s hx => ⟨fun h => ?_, fun h => ?_, fun h => ?_⟩⟩
  · rintro s placed c rfl rfl
    refine ⟨fun closing free short => ?_, fun closing full => ?_, notifySweep_waiting, notifySweep_others⟩
    · have room := (sweepHasRoom_iff s).mpr ⟨free, short⟩
      rw [exec_sweepEndPlacement_closing closing, notifySweep_closing closing, judgeSweepEnd_room room]
      exact ⟨rfl, rfl⟩
    · have full : ¬s.sweepHasRoom = true := by
        rw [sweepHasRoom_iff]
        omega
      rw [exec_sweepEndPlacement_closing closing, notifySweep_closing closing, judgeSweepEnd_full full]
      exact ⟨rfl, rfl⟩
  · exact congrArg Host.Outcome.next (carryOut_answers hx rfl (sweepAbortAct_idle h []))
  · exact congrArg Host.Outcome.next (carryOut_answers hx rfl (sweepAbortAct_closing h []))
  · refine ⟨enterClosing .aborted s, exec_sweepEndPlacement_closing rfl, congrArg Host.Outcome.next ?_⟩
    rw [carryOut_acts hx rfl, sweepAbortAct_closes h]

/-! ## Visits -/

/-- The selections of a sweep (R146). -/
theorem meetsSelection_iff (w : Sweep) (r : BinRecord) :
    meetsSelection w r = true ↔
      (w.selection = .owed → r.owed.getLsbD w.channel = true) ∧
        (w.selection = .band →
          r.band = .due ∧ w.minimumBand.toNat ≤ 3 ∨ r.band = .soon ∧ w.minimumBand.toNat ≤ 2 ∨
            r.band = .later ∧ w.minimumBand.toNat ≤ 1) := by
  unfold meetsSelection
  cases w.selection with
  | all => simp
  | owed => simp
  | band =>
    simp only [Bool.and_eq_true, decide_eq_true_eq]
    cases r.band <;> simp [Band.code]

theorem sweepMatches_iff (w : Sweep) (r : BinRecord) :
    sweepMatches w r = true ↔
      w.profileMask.getLsbD r.profile = true ∧ w.districtMask.getLsbD r.district = true ∧
        (w.selection = .owed → r.owed.getLsbD w.channel = true) ∧
        (w.selection = .band →
          r.band = .due ∧ w.minimumBand.toNat ≤ 3 ∨ r.band = .soon ∧ w.minimumBand.toNat ≤ 2 ∨
            r.band = .later ∧ w.minimumBand.toNat ≤ 1) := by
  rw [sweepMatches, Bool.and_eq_true, Bool.and_eq_true, meetsSelection_iff, and_assoc]

theorem matchAtCursor_eq_some_iff (s : State) (r : BinRecord) :
    matchAtCursor s = some r ↔ s.bin s.sweep.cursor = some r ∧ sweepMatches s.sweep r = true := by
  unfold matchAtCursor
  cases s.bin s.sweep.cursor with
  | none => simp
  | some x =>
    by_cases hx : sweepMatches s.sweep x = true
    · simp only [if_pos hx, Option.some.injEq]
      exact ⟨fun e => ⟨e, e ▸ hx⟩, And.left⟩
    · simp only [if_neg hx, Option.some.injEq, reduceCtorEq, false_iff]
      rintro ⟨rfl, h⟩
      exact hx h

theorem exec_sweepVisit_running {s : State} (h : s.sweep.state = .running) :
    exec .sweepVisit s = .next (visit s) := congrArg Host.Outcome.next (if_pos h)

theorem visit_without_match {s : State} (h : matchAtCursor s = none) : visit s = passSlot s := by
  simp only [visit, h]

theorem visit_without_room {s : State} {r : BinRecord} (h : matchAtCursor s = some r) (full : ¬s.sweepHasRoom = true) :
    visit s = s.setSweep { s.sweep with state := .waiting } := by
  simp only [visit, h, if_neg full]

theorem visit_with_room {s : State} {r : BinRecord} (h : matchAtCursor s = some r) (room : s.sweepHasRoom = true) :
    visit s = passSlot
      ((queueCopy (snapshotOffer r s) s.sweep.channel s).setSweep { s.sweep with emitted := s.sweep.emitted + 1 }) := by
  simp only [visit, h, if_pos room]

theorem passSlot_before_last {s : State} (h : s.sweep.cursor ≠ 4095) :
    passSlot s = s.setSweep { s.sweep with cursor := s.sweep.cursor + 1, visited := s.sweep.visited + 1 } :=
  if_neg fun e : s.sweep.cursor + 1 = 4096 => h (by omega)

/-- Past slot 4095 the SWEEP_END of a COMPLETE sweep is judged at once (R147, R150). -/
theorem passSlot_last {s : State} (h : s.sweep.cursor = 4095) :
    passSlot s = judgeSweepEnd (s.setSweep
      { s.sweep with
        state := .closing, pendingEnd := .complete, cursor := 4096, visited := s.sweep.visited + 1 }) := by
  have past : s.sweep.cursor + 1 = 4096 := by rw [h]
  rw [passSlot, past]
  exact if_pos rfl

/-- Settles O48: a match finds room and passes with its SNAPSHOT queued, or waits; without one the slot is passed. -/
theorem sweepVisitsSlot : Obligations.SweepVisitsSlot := by
  rintro s t c found emitted running rfl hfound
  have matched (r : BinRecord) : found r ↔ matchAtCursor s = some r := by
    rw [hfound, matchAtCursor_eq_some_iff, sweepMatches_iff]
  rw [exec_sweepVisit_running running]
  refine ⟨fun r hr full => ?_, fun passes => ?_⟩
  · have full : ¬s.sweepHasRoom = true := by
      rw [sweepHasRoom_iff]
      omega
    rw [visit_without_room ((matched r).mp hr) full]
  · have passed : visit s = passSlot (t.setSweep { s.sweep with emitted := emitted }) := by
      obtain ⟨unmatched, rfl, rfl⟩ | ⟨r, hr, free, short, rfl, rfl⟩ := passes
      · exact visit_without_match
          (Option.eq_none_iff_forall_ne_some.mpr fun r hr => unmatched r ((matched r).mpr hr))
      · exact visit_with_room ((matched r).mp hr) ((sweepHasRoom_iff s).mpr ⟨free, short⟩)
    rw [passed]
    refine ⟨fun before => congrArg Host.Outcome.next (passSlot_before_last before), fun last => ?_⟩
    rw [exec_sweepEndPlacement_closing rfl]
    exact congrArg Host.Outcome.next (passSlot_last last)

end Sys2Proof.Machine
end

section
/-! PROOFS. Delivery on the planner link (07_report_channels.md, 10_planner_link.md, 11_message_formats.md): the layouts
of the messages, whom a transmission begin serves, and what a completion does. -/

namespace Sys2Proof.Machine

/-! ## The layouts of the messages -/

theorem frameLayout : FrameLayout where
  one _ := rfl
  two _ := rfl
  four _ := rfl
  digits := by decide +kernel
  whole _ _ _ _ h := by rw [h]; rfl

theorem codeTable : CodeTable where
  standings := rfl
  bands := rfl
  ackModes := rfl
  expectations := ⟨rfl, fun _ => rfl⟩
  conditions _ := rfl
  alarms := by decide
  arbitrations := rfl
  causes := rfl
  sweepStates := rfl
  reasons := ⟨rfl, rfl⟩
  sources := rfl
  outcomes := ⟨rfl, fun _ => ⟨rfl, rfl⟩⟩
  malformed := rfl
  verdicts := rfl
  statuses := rfl

/-- The bytes of an identity that may be absent (R179). -/
theorem identityBytes_getD (id : Option Identity) : (id.map BitVec.toNat).getD 0 = (id.getD 0#32).toNat := by
  cases id <;> rfl

theorem summary_length (b : Summary) : b.bytes.length = 20 := rfl

theorem detail_length (d : Detail) : d.bytes.length = 40 := by
  simp [Detail.bytes]

/-- The contents of a MALFORMED report: absent identity and metadata are zero bytes (R181). -/
theorem malformed_bytes (why : Malformed) (source : Source) (length : Nat) (id : Option Identity)
    (heard : Option (Int × Nat)) :
    (ReportBody.malformed why source length id heard).bytes =
      [byteOf why.code, byteOf source.code] ++ be16 length ++
        [byteOf ((if id.isSome then 1 else 0) + if heard.isSome then 2 else 0)] ++ be32 (id.getD 0#32).toNat ++
        [BitVec.ofInt 8 (heard.getD (0, 0)).1, byteOf (heard.getD (0, 0)).2] := by
  cases id <;> cases heard <;> rfl

/-- The contents of a STRANGER report (R181). -/
theorem stranger_bytes (id : Identity) (join : Bool) (seq : BitVec 4) (rssi : Int) (antenna count : Nat) :
    (ReportBody.stranger id join seq rssi antenna count).bytes =
      be32 id.toNat ++
        [if join then 2#8 else 1#8, byteOf seq.toNat, BitVec.ofInt 8 rssi, byteOf antenna, byteOf count] := by
  cases join <;> rfl

theorem reportLayout : ReportLayout where
  frame _ _ := rfl
  summary _ := rfl
  detail _ := rfl
  lengths b d := ⟨summary_length b, detail_length d⟩
  fill _ := ⟨rfl, rfl⟩
  malformed why source length id heard := ⟨rfl, malformed_bytes why source length id heard⟩
  soon _ := ⟨rfl, rfl⟩
  emptied _ _ _ := ⟨rfl, rfl⟩
  stranger id join seq rssi antenna count := ⟨rfl, stranger_bytes id join seq rssi antenna count⟩
  snapshot _ _ := ⟨rfl, rfl⟩
  sweepEnd _ _ _ _ := ⟨rfl, rfl⟩
  due _ := ⟨rfl, rfl⟩
  alarm _ _ _ := ⟨rfl, rfl⟩
  notice _ := rfl

/-- The STATUS reply, its parts in order (R183). -/
theorem status_bytes (i : StatusItems) : (Reply.status i).bytes =
    [0#8] ++ be32 i.uptime ++ [byteOf (if i.isSet then 1 else 0)] ++ be32 i.offset.toNat ++ [byteOf i.lastReset.code] ++
      be16 i.occupied ++ [byteOf i.strangers, byteOf i.intakeLength, byteOf i.commandLength] ++ be16 i.poolFree ++
      i.channels.flatMap ChannelStatus.bytes ++
      [byteOf i.sweepState.code] ++ be16 i.cursor ++ [byteOf i.lastEnd.code] ++ i.items.bytes := by
  have statusFirst : (Reply.status i).bytes = 0#8 :: i.bytes := rfl
  rw [statusFirst, StatusItems.bytes, boolByte, flagBit]
  simp only [List.append_assoc, List.cons_append, List.nil_append]

/-- The QUERY reply, its parts in order (R183). -/
theorem record_bytes (unset : Bool) (b : Summary) (d : Detail) (window : List Nat) :
    (Reply.record unset b d window).bytes =
      [0#8, byteOf (if unset then 1 else 0)] ++ b.bytes ++ d.bytes ++ [byteOf window.length] ++
        be16 (window.getD 0 0) ++ be16 (window.getD 1 0) ++ be16 (window.getD 2 0) := by
  have headFirst : (Reply.record unset b d window).bytes =
      0#8 :: byteOf (if unset then 1 else 0) :: (b.bytes ++ d.bytes ++ windowBytes window) := rfl
  rw [headFirst, windowBytes]
  simp only [List.append_assoc, List.cons_append, List.nil_append]

theorem replyLayout : ReplyLayout where
  frame r command tag h := by
    have type : r.type command = command + 0x80#8 := by
      cases r with
      | unknownCommand held => exact absurd rfl (h held)
      | _ => rfl
    rw [Reply.frame, type]
  unknownCommand _ _ _ := rfl
  badLength := rfl
  refusedIdentity _ _ := rfl
  refusedIndex _ _ := rfl
  refused _ := rfl
  enrolled _ := rfl
  done _ := rfl
  retired _ _ _ := rfl
  barred _ _ := rfl
  record := record_bytes
  injected outcome id bin := by cases id <;> cases bin <;> rfl
  profile _ _ _ := rfl
  entry _ := rfl
  listing _ _ _ _ := rfl
  alarms _ _ _ _ := rfl
  stranger _ := rfl
  strangers _ _ := rfl
  dismissed _ _ := rfl
  channel _ _ _ _ := rfl
  credit _ _ _ := rfl
  sweep _ _ _ := rfl
  time _ _ _ := rfl
  items _ := rfl
  channelStatus _ := rfl
  status := status_bytes
  config _ _ := rfl
  counters _ := rfl
  restart := rfl

/-! ## The oldest answered reply -/

/-- The entry found and its change to sending, where the Command Queue is split at the oldest answered entry
(R135, R168). -/
theorem firstAnswered_split {before : List Command} (after : List Command) {e : Command} {r : Reply}
    (he : e.condition = .answered r) (hb : ∀ x ∈ before, ∀ y, x.condition ≠ .answered y) :
    firstAnswered (before ++ e :: after) = some (e, r) ∧
      sendFirst (before ++ e :: after) = before ++ { e with condition := .sending r } :: after := by
  induction before with
  | nil => simp only [List.nil_append, firstAnswered, sendFirst, he, and_self]
  | cons x before ih =>
    obtain ⟨first, sent⟩ := ih fun y hy => hb y (List.mem_cons_of_mem x hy)
    rw [List.cons_append, firstAnswered, sendFirst]
    split
    next y hx => exact absurd hx (hb x List.mem_cons_self y)
    next => exact ⟨first, congrArg (x :: ·) sent⟩
    next => exact ⟨first, congrArg (x :: ·) sent⟩

theorem firstAnswered_eq_none {l : List Command} (h : ∀ e ∈ l, ∀ r, e.condition ≠ .answered r) :
    firstAnswered l = none := by
  induction l with
  | nil => rfl
  | cons e l ih =>
    rw [firstAnswered]
    split
    next r he => exact absurd he (h e List.mem_cons_self r)
    next => exact ih fun x hx => h x (List.mem_cons_of_mem e hx)
    next => exact ih fun x hx => h x (List.mem_cons_of_mem e hx)

/-! ## The arbiter -/

theorem waits_eq_true {ch : Channel} {copy : Copy} {rest : List Copy} (he : ch.enabled = true) (hc : 1 ≤ ch.credit)
    (hq : ch.queue = copy :: rest) : ch.waits = true := by
  simp [Channel.waits, he, hc, hq]

theorem waits_eq_false {ch : Channel} (h : ch.enabled = false ∨ ch.credit = 0 ∨ ch.queue = []) : ch.waits = false := by
  obtain h | h | h := h
  · simp [Channel.waits, h]
  · simp [Channel.waits, h]
  · simp [Channel.waits, h]

/-- The channels in the order the arbiter tries them (R135). -/
def arbiterOrder (mode : Arbitration) (position : Option (Fin 8)) : List (Fin 8) :=
  match mode with
  | .rotate => rotationOrder position
  | .ranked => allChannels

/-- The place of a channel in that order: its index, or its distance past the rotation position (R135). -/
def arbiterRank (mode : Arbitration) (position : Option (Fin 8)) (d : Fin 8) : Nat :=
  match mode, position with
  | .rotate, some p => (d.val + 7 - p.val) % 8
  | .rotate, none => d.val
  | .ranked, _ => d.val

theorem chosenChannel_eq_find (s : State) :
    chosenChannel s =
      (arbiterOrder s.reports.arbitration s.reports.rotation).find? fun c => (s.channel c).waits := by
  unfold chosenChannel
  split
  next h => rw [h, arbiterOrder]
  next h => rw [h, arbiterOrder]

/-- The order tries every channel, by rising rank (R135). -/
theorem arbiterOrder_ranks (mode : Arbitration) (position : Option (Fin 8)) :
    (arbiterOrder mode position).Pairwise (fun c d => arbiterRank mode position c < arbiterRank mode position d) ∧
      ∀ c, c ∈ arbiterOrder mode position := by
  cases mode with
  | ranked => exact ⟨by decide +revert, by decide +revert⟩
  | rotate =>
    cases position with
    | none => exact ⟨by decide, by decide⟩
    | some p => exact ⟨by decide +revert, by decide +revert⟩

/-- In a list of rising rank, the first element found is the one of least rank that qualifies. -/
theorem find?_eq_some_of_least {α : Type} {l : List α} {rank : α → Nat} {p : α → Bool} {c : α}
    (rising : l.Pairwise fun x y => rank x < rank y) (hc : c ∈ l) (hp : p c = true)
    (least : ∀ d, rank d < rank c → p d = false) : l.find? p = some c := by
  obtain ⟨before, after, rfl⟩ := List.append_of_mem hc
  obtain ⟨-, -, lower⟩ := List.pairwise_append.mp rising
  refine List.find?_eq_some_iff_append.mpr ⟨hp, before, after, rfl, fun d hd => ?_⟩
  simp [least d (lower d hd c List.mem_cons_self)]

theorem chosenChannel_eq_some {s : State} {c : Fin 8} (hc : (s.channel c).waits = true)
    (least : ∀ d, arbiterRank s.reports.arbitration s.reports.rotation d <
      arbiterRank s.reports.arbitration s.reports.rotation c → (s.channel d).waits = false) :
    chosenChannel s = some c := by
  obtain ⟨rising, every⟩ := arbiterOrder_ranks s.reports.arbitration s.reports.rotation
  rw [chosenChannel_eq_find]
  exact find?_eq_some_of_least rising (every c) hc least

theorem chosenChannel_eq_none {s : State} (h : ∀ d, (s.channel d).waits = false) : chosenChannel s = none := by
  rw [chosenChannel_eq_find]
  exact List.find?_eq_none.mpr fun d _ => by simp [h d]

/-! ## TRANSMISSION_BEGIN -/

theorem exec_transmissionBegin_idle {s : State} (high : s.link.resetLow = false) (idle : s.link.transmitter = .idle) :
    exec .transmissionBegin s = .next (beginParty s) := congrArg Host.Outcome.next (if_pos ⟨high, idle⟩)

theorem beginParty_notice {s : State} {n : StartNotice} (h : s.link.startNotice = some n) :
    beginParty s = beginNotice n s := by
  simp only [beginParty, h]

theorem beginParty_reply {s : State} {e : Command} {r : Reply} (hn : s.link.startNotice = none)
    (hr : firstAnswered s.link.commands = some (e, r)) : beginParty s = beginReply e r s := by
  simp only [beginParty, hn, hr]

theorem beginParty_channels {s : State} (hn : s.link.startNotice = none)
    (hr : ∀ e ∈ s.link.commands, ∀ r, e.condition ≠ .answered r) : beginParty s = beginChosen s := by
  simp only [beginParty, hn, firstAnswered_eq_none hr]

/-- Settles O44: the layouts field by field; then the start notice, the oldest answered reply, and the waiting channel
of least rank in the arbiter's order. -/
theorem transmissionBeginChooses : Obligations.TransmissionBeginChooses := by
  refine ⟨⟨frameLayout, codeTable, reportLayout, replyLayout⟩, fun s high idle => ?_⟩
  rw [exec_transmissionBegin_idle high idle]
  refine ⟨fun n hn => ?_, fun before after e r hn hq he hb => ?_, fun hn hr =>
    ⟨fun c copy queue on funded hq least => ?_, fun nobody => ?_⟩⟩
  · rw [beginParty_notice hn]
    rfl
  · obtain ⟨first, sent⟩ := firstAnswered_split after he hb
    rw [← hq] at first sent
    rw [beginParty_reply hn first, beginReply, sent]
  · have chosen : chosenChannel s = some c :=
      chosenChannel_eq_some (waits_eq_true on funded hq) fun d lower => waits_eq_false <| least d
        (fun ranked => by simpa [arbiterRank, ranked] using lower)
        (fun rotate start => by simpa [arbiterRank, rotate, start] using lower)
        (fun p rotate position => by simpa only [arbiterRank, rotate, position] using lower)
    rw [beginParty_channels hn hr]
    simp only [beginChosen, chosen]
    split
    next head rest hq' =>
      cases hq.symm.trans hq'
      rfl
    next hq' => cases hq.symm.trans hq'
  · rw [beginParty_channels hn hr, beginChosen, chosenChannel_eq_none fun d => waits_eq_false (nobody d)]

/-! ## TRANSMISSION_COMPLETION -/

theorem completion_sending {s : State} {p : Party} {frame : List Byte} (h : s.link.transmitter = .sending p frame) :
    completion s = completeParty p s := by
  simp only [completion, h]

/-- The RESTART is recognised by the reply in transmission at the head of the Command Queue (log entry 19). -/
theorem sendsRestart_iff {s : State} {e : Command} {rest : List Command} {r : Reply}
    (hq : s.link.commands = e :: rest) (he : e.condition = .sending r) : sendsRestart s = true ↔ r = .restart := by
  simp [sendsRestart, hq, he]

/-- Settles O45: each party's completion, and the reply of a RESTART apart. -/
theorem transmissionCompletes : Obligations.TransmissionCompletes := by
  refine fun s frame => ⟨fun c hs => ?_, fun hs => ?_, fun e rest r hs hq he => ⟨fun hr => ?_, fun hr => ?_⟩⟩
  · refine congrArg Host.Outcome.next ((completion_sending hs).trans ?_)
    simp only [completeParty, completeCopy, List.drop_one]
    rfl
  · exact congrArg Host.Outcome.next (completion_sending hs)
  · refine congrArg Host.Outcome.next ((completion_sending hs).trans ?_)
    rw [completeParty, completeReply, if_neg (mt (sendsRestart_iff hq he).mp hr), hq]
    rfl
  · exact congrArg Host.Outcome.next
      ((completion_sending hs).trans (if_pos ((sendsRestart_iff hq he).mpr hr)))

end Sys2Proof.Machine
end

section
/-! PROOFS. Where credit falls (R133, R136, R141, R172): every row but a begin and the resets leaves each channel at
least the credit it had. -/

namespace Sys2Proof.Machine

/-! ## Credit that is not spent -/

/-- Every channel has at least the credit it had, counted up to the 65,535 at which CREDIT holds it (R133). -/
structure Unspent (s t : State) : Prop where
  credit : ∀ c, min (s.channel c).credit 65535 ≤ (t.channel c).credit

theorem Unspent.refl (s : State) : Unspent s s := ⟨fun _ => Nat.min_le_left _ _⟩

theorem Unspent.trans {s t u : State} (h : Unspent s t) (k : Unspent t u) : Unspent s u := ⟨fun c => by
  have := h.credit c
  have := k.credit c
  omega⟩

theorem Unspent.of_credits {s t : State} (h : ∀ c, (t.channel c).credit = (s.channel c).credit) : Unspent s t :=
  ⟨fun c => by rw [h c]; exact Nat.min_le_left _ _⟩

theorem Unspent.of_reports {s t : State} (h : t.reports = s.reports) : Unspent s t :=
  .of_credits fun c => congrArg Channel.credit (State.channel_of_reports h c)

/-- An event that starts from a state with the same Report Channels. -/
theorem Unspent.from_reports {s s' t : State} (h : Unspent s' t) (hr : s'.reports = s.reports) : Unspent s t :=
  (Unspent.of_reports hr).trans h

theorem Unspent.to_reports {s t t' : State} (h : Unspent s t) (hr : t'.reports = t.reports) : Unspent s t' :=
  h.trans (.of_reports hr)

theorem Unspent.not_less {s t : State} (h : Unspent s t) {c : Fin 8} (bound : (s.channel c).credit ≤ 65535) :
    ¬(t.channel c).credit < (s.channel c).credit := by
  have := h.credit c
  omega

theorem putChannel_unspent (s : State) {c : Fin 8} {x : Channel} (h : min (s.channel c).credit 65535 ≤ x.credit) :
    Unspent s (s.putChannel c x) := ⟨fun d => by
  rw [State.putChannel_channel]
  split
  next e => exact e ▸ h
  next => exact Nat.min_le_left _ _⟩

/-! ## Offers and copies -/

theorem settle_unspent (s : State) (o : Offer) : Unspent s (settle s o) := .of_credits fun c => by
  obtain ⟨-, -, -, -, -, credit, -⟩ := (settle_spec s o).2 c
  exact credit

theorem settleAll_unspent (offers : List Offer) (s : State) : Unspent s (settleAll offers s) := .of_credits fun c => by
  obtain ⟨-, -, -, -, -, credit, -⟩ := (settleAll_spec offers s).2 c
  exact credit

theorem queueCopy_unspent (o : Offer) (c : Fin 8) (s : State) : Unspent s (queueCopy o c s) := .of_credits fun d => by
  rw [queueCopy_channel]
  split
  next e => rw [e]
  next => rfl

/-- A flush keeps the credit (R124). -/
theorem flush_unspent (c : Fin 8) (s : State) : Unspent s (flush c s) := .of_credits fun d => by
  rw [flush_channel]
  split
  next e => rw [e]
  next => rfl

theorem replaceRecord_unspent (slot : Nat) (out : BinRecord × List Raised) (s : State) :
    Unspent s (replaceRecord slot out s) :=
  (settleAll_unspent _ _).from_reports rfl

theorem putMoves_reports (moves : List Move) (s : State) :
    (moves.foldl (fun t m => t.putBin m.1 m.2.1) s).reports = s.reports := by
  induction moves generalizing s with
  | nil => rfl
  | cons m moves ih => exact ih _

theorem applyMoves_unspent (time : Nat) (moves : List Move) (s : State) : Unspent s (applyMoves time moves s) :=
  (settleAll_unspent _ _).from_reports (putMoves_reports moves s)

/-! ## Captures and reception -/

theorem makeAnswer_reports (source : Source) (r : BinRecord) (seq : BitVec 4) (v : Verdict) (s : State) :
    (makeAnswer source r seq v s).reports = s.reports := by
  obtain ⟨a, k, e⟩ := makeAnswer_frame source r seq v s
  rw [e, State.setIntake_reports]

theorem admitCapture_reports (cap : Capture) (g : GoodFrame) (gap slot : Nat) (r : BinRecord) (s : State) :
    (admitCapture cap g gap slot r s).1.reports = s.reports := by
  have held : (takeHeld cap g r s).reports = s.reports := makeAnswer_reports ..
  have accepted : (takeAccepted cap g gap slot r s).reports = s.reports := makeAnswer_reports ..
  unfold admitCapture
  split
  next =>
    split
    · exact held
    · exact accepted
  next =>
    split
    · rfl
    · exact accepted
  next =>
    split
    · exact held
    · exact accepted

/-- A good capture of an enrolled bin raises no offer (R34 to R39). -/
theorem classify_reports (cap : Capture) (g : GoodFrame) (slot : Nat) (r : BinRecord) (s : State) :
    (classify cap g slot r s).1.reports = s.reports := by
  unfold classify
  split
  next => exact makeAnswer_reports ..
  next =>
    split
    · exact makeAnswer_reports ..
    · exact makeAnswer_reports ..
    · exact admitCapture_reports ..

theorem hearStranger_unspent (h : Hearing) (s : State) : Unspent s (hearStranger h s) := by
  unfold hearStranger
  split
  next => exact .of_reports rfl
  next =>
    split
    next => exact (settle_unspent _ _).from_reports rfl
    next => exact .of_reports rfl

theorem takeMalformed_unspent (cap : Capture) (why : Malformed) (s : State) : Unspent s (takeMalformed cap why s) :=
  (settle_unspent _ _).from_reports rfl

theorem takeStranger_unspent (cap : Capture) (g : GoodFrame) (s : State) : Unspent s (takeStranger cap g s) :=
  (hearStranger_unspent _ _).from_reports rfl

theorem takeCapture_unspent (cap : Capture) (s : State) : Unspent s (takeCapture cap s).1 := by
  unfold takeCapture
  split
  next why _ =>
    dsimp only
    exact takeMalformed_unspent cap why s
  next =>
    split
    next => exact takeStranger_unspent cap _ s
    next => exact .of_reports (classify_reports ..)

theorem fieldFound_unspent (f : Finding) (s : State) : Unspent s (fieldFound f s) := by
  cases f with
  | collecting held => exact .of_reports rfl
  | arrived type tag body rest =>
    change Unspent s (fieldArrival type body (s.setFieldHeld rest))
    unfold fieldArrival
    split
    · exact (takeCapture_unspent _ _).from_reports rfl
    · exact .of_reports rfl
  | bad rest => exact .of_reports rfl
  | overlong rest => exact .of_reports rfl

theorem plannerFound_unspent (f : Finding) (s : State) : Unspent s (plannerFound f s) := by
  cases f with
  | collecting held => exact .of_reports rfl
  | arrived type tag body rest =>
    change Unspent s (commandArrives type tag body (s.setPlannerHeld rest))
    unfold commandArrives
    split
    · exact .of_reports rfl
    · exact .of_reports rfl
  | bad rest => exact .of_reports rfl
  | overlong rest => exact .of_reports rfl

theorem receive_unspent (l : Link) (bytes : List Byte) (s : State) : Unspent s (receive l bytes s) := by
  unfold receive
  split
  · exact .refl s
  · cases l with
    | planner => exact plannerFound_unspent _ s
    | field => exact fieldFound_unspent _ s

/-! ## Executions of held commands -/

/-- An execution spends no credit when the block's act does not (R166). -/
theorem carryOut_unspent (type : Byte) (lengthOk : Nat → Bool) {act : List Byte → State → State × Reply} {s : State}
    (h : ∀ body, Unspent s (act body s).1) : Unspent s (carryOut type lengthOk act s) := by
  obtain e | e | ⟨body, -, -, e⟩ := carryOut_cases type lengthOk act s
  · rw [e]; exact .refl s
  · rw [e]; exact .of_reports rfl
  · rw [e]; exact (h body).to_reports rfl

theorem onRecord_unspent (body : List Byte) {s : State} {act : Nat → BinRecord → State × Reply}
    (h : ∀ slot r, Unspent s (act slot r).1) : Unspent s (onRecord body s act).1 := by
  obtain ⟨st, e⟩ | ⟨slot, r, -, e⟩ := onRecord_cases body s act
  · rw [e]; exact .refl s
  · rw [e]; exact h slot r

theorem enrolAct_unspent (body : List Byte) (s : State) : Unspent s (enrolAct body s).1 := by
  rw [enrolAct]
  split
  next => exact .refl s
  next =>
    split
    next =>
      split
      next => exact .refl s
      next =>
        split
        next => exact .refl s
        next => exact .of_reports rfl
    next => exact .refl s

theorem amendAct_unspent (body : List Byte) (s : State) : Unspent s (amendAct body s).1 :=
  onRecord_unspent body fun slot r => by
    simp only
    split
    · exact replaceRecord_unspent slot _ s
    · exact .refl s

theorem retireSlot_unspent (slot : Nat) (s : State) : Unspent s (retireSlot slot s) :=
  .of_credits fun c => (congrArg Channel.credit (detachSlot_channel slot (purge slot s) c)).trans rfl

theorem barAct_unspent (body : List Byte) (s : State) : Unspent s (barAct body s).1 :=
  onRecord_unspent body fun slot r => by
    split
    · exact .refl s
    · exact .of_reports rfl

theorem unbarAct_unspent (body : List Byte) (s : State) : Unspent s (unbarAct body s).1 :=
  onRecord_unspent body fun slot r => by
    split
    · exact replaceRecord_unspent slot _ s
    · exact .refl s

theorem profileSetAct_unspent (body : List Byte) (s : State) : Unspent s (profileSetAct body s).1 := by
  unfold profileSetAct
  split
  next =>
    simp only [storeProfile]
    split
    next => exact .refl s
    next =>
      split
      · exact .of_reports rfl
      · exact .of_reports rfl
  next => exact .refl s

theorem profileGetAct_unspent (body : List Byte) (s : State) : Unspent s (profileGetAct body s).1 := by
  unfold profileGetAct
  split
  · exact .refl s
  · exact .refl s

theorem listAct_unspent (body : List Byte) (s : State) : Unspent s (listAct body s).1 := by
  rw [listAct]
  split
  · exact .refl s
  · exact .refl s

theorem clearAlarmsAct_unspent (body : List Byte) (s : State) : Unspent s (clearAlarmsAct body s).1 := by
  rw [clearAlarmsAct]
  split
  next => exact .refl s
  next =>
    split
    next => exact .refl s
    next =>
      split
      next => exact .refl s
      next => exact .of_reports rfl

theorem dismissAct_unspent (body : List Byte) (s : State) : Unspent s (dismissAct body s).1 := by
  rw [dismissAct]
  split
  next => exact .refl s
  next =>
    split
    next => exact .refl s
    next => exact .of_reports rfl

theorem storeItems_unspent (i : ConfigItems) (s : State) : Unspent s (storeItems i s) := .of_credits fun _ => rfl

theorem configAct_unspent (body : List Byte) (s : State) : Unspent s (configAct body s).1 := by
  rw [configAct]
  split
  · exact .refl s
  · exact storeItems_unspent _ s

theorem countersAct_unspent (body : List Byte) (s : State) : Unspent s (countersAct body s).1 := by
  have cleared : Unspent s (clearCounters s) := .of_credits fun c => by simp [clearCounters, State.channel]
  unfold countersAct
  split
  next => exact .refl s
  next =>
    simp only
    split
    · exact cleared
    · exact .refl s

theorem refuseUnknown_unspent (s : State) : Unspent s (refuseUnknown s) := by
  unfold refuseUnknown
  split
  next => exact .refl s
  next =>
    split
    · exact .refl s
    · exact .of_reports rfl

/-! ## The channels and the sweep -/

theorem judgeSweepEnd_unspent (s : State) : Unspent s (judgeSweepEnd s) := by
  obtain ⟨-, e⟩ | ⟨-, e⟩ := judgeSweepEnd_cases s
  · rw [e]; exact (queueCopy_unspent ..).to_reports rfl
  · rw [e]; exact .refl s

theorem enterClosing_unspent (why : PendingEnd) (s : State) : Unspent s (enterClosing why s) :=
  (judgeSweepEnd_unspent _).from_reports rfl

theorem notifySweep_unspent (s : State) : Unspent s (notifySweep s) := by
  unfold notifySweep
  split
  · exact .of_reports rfl
  · exact judgeSweepEnd_unspent s
  · exact .refl s
  · exact .refl s

theorem disableChannel_unspent (c : Fin 8) (s : State) : Unspent s (disableChannel c s) := by
  have flushed := flush_unspent c s
  unfold disableChannel
  simp only
  split
  · exact flushed.to_reports rfl
  · exact flushed.trans (notifySweep_unspent _)

theorem setChannel_unspent (c : Fin 8) (x : ChannelConfig) (s : State) : Unspent s (setChannel c x s) := by
  have stored : Unspent s (s.putChannel c (configured x (s.channel c))) :=
    putChannel_unspent s (Nat.min_le_left _ _)
  rw [setChannel]
  split
  · exact stored.trans (disableChannel_unspent c _)
  · exact stored

theorem channelSetAct_unspent (body : List Byte) (s : State) : Unspent s (channelSetAct body s).1 := by
  unfold channelSetAct
  split
  · split
    · exact .refl s
    · exact setChannel_unspent _ _ s
  · exact .refl s

/-- CREDIT adds, and holds the sum at 65,535 (R133). -/
theorem creditAct_unspent (body : List Byte) (s : State) : Unspent s (creditAct body s).1 := by
  unfold creditAct
  split
  next => exact .refl s
  next =>
    refine putChannel_unspent s ?_
    simp only [raise16, Config.max16]
    omega

theorem sweepAct_unspent (body : List Byte) (s : State) : Unspent s (sweepAct body s).1 := by
  unfold sweepAct
  split
  next => exact .refl s
  next =>
    split
    next =>
      split
      next => exact .refl s
      next =>
        split
        next => exact .of_reports rfl
        next => exact .refl s
    next => exact .refl s

theorem sweepAbortAct_unspent (body : List Byte) (s : State) : Unspent s (sweepAbortAct body s).1 := by
  unfold sweepAbortAct
  split
  · dsimp only
    exact enterClosing_unspent .aborted s
  · dsimp only
    exact enterClosing_unspent .aborted s
  · exact .refl s
  · exact .refl s

theorem passSlot_unspent (s : State) : Unspent s (passSlot s) := by
  have passed : Unspent s (s.setSweep { s.sweep with cursor := s.sweep.cursor + 1, visited := s.sweep.visited + 1 }) :=
    .of_reports rfl
  unfold passSlot
  simp only
  split
  · exact passed.trans (enterClosing_unspent _ _)
  · exact passed

theorem visit_unspent (s : State) : Unspent s (visit s) := by
  unfold visit
  split
  next => exact passSlot_unspent s
  next =>
    split
    next =>
      refine .trans ?_ (passSlot_unspent _)
      exact (queueCopy_unspent ..).to_reports rfl
    next => exact .of_reports rfl

/-! ## Events on records -/

theorem estimation_unspent (s : State) : Unspent s (estimation s) := by
  unfold estimation
  split
  next => exact .refl s
  next =>
    simp only
    split
    next => exact .of_reports rfl
    next =>
      split
      next => exact .of_reports rfl
      next => exact (replaceRecord_unspent _ _ _).from_reports rfl

theorem secondsWalk_unspent (s : State) : Unspent s (secondsWalk s) :=
  (applyMoves_unspent ..).from_reports rfl

theorem silenceCheck_unspent (s : State) : Unspent s (silenceCheck s) :=
  (applyMoves_unspent ..).from_reports rfl

/-! ## Begins, completions and resets -/

/-- A begin spends credit only for the channel it sends for (R136). -/
theorem beginParty_cases (s : State) :
    Unspent s (beginParty s) ∨ ∃ d copy, beginParty s = beginChannel d copy s := by
  unfold beginParty
  split
  next => exact .inl (.of_reports rfl)
  next =>
    split
    next => exact .inl (.of_reports rfl)
    next =>
      unfold beginChosen
      split
      next => exact .inl (.refl s)
      next d _ =>
        split
        next copy _ _ => exact .inr ⟨d, copy, rfl⟩
        next => exact .inl (.refl s)

theorem beginChannel_channel (d : Fin 8) (copy : Copy) (s : State) (c : Fin 8) :
    (beginChannel d copy s).channel c =
      if d = c then { s.channel d with credit := (s.channel d).credit - 1 } else s.channel c :=
  State.putChannel_channel s d c _

/-- A channel whose credit a begin lowers is the one it sends for, and loses one (R136). -/
theorem beginChannel_spends {d c : Fin 8} {copy : Copy} {s : State}
    (h : ((beginChannel d copy s).channel c).credit < (s.channel c).credit) :
    d = c ∧ (s.channel c).credit = ((beginChannel d copy s).channel c).credit + 1 := by
  rw [beginChannel_channel] at h ⊢
  split at h
  next e =>
    subst e
    simp only at h
    exact ⟨rfl, by simp only [if_true]; omega⟩
  next => exact absurd h (Nat.lt_irrefl _)

theorem sendsRestart_head {s : State} (h : sendsRestart s = true) :
    ∃ e rest, s.link.commands = e :: rest ∧ e.condition = .sending .restart := by
  unfold sendsRestart at h
  split at h
  next e rest hq => exact ⟨e, rest, hq, beq_iff_eq.mp h⟩
  next => cases h

theorem idleTransmitter_unspent {s t : State} (h : Unspent s t) : Unspent s (idleTransmitter t) := h.to_reports rfl

/-- The completion of a copy leaves its channel's credit as it is (R137). -/
theorem completeCopy_unspent (c : Fin 8) (s : State) : Unspent s (completeCopy c s) := by
  refine .trans ?_ (notifySweep_unspent _)
  refine idleTransmitter_unspent (putChannel_unspent s ?_)
  exact Nat.min_le_left _ _

/-- A completion spends no credit, unless it is that of a RESTART's reply (R137, R172). -/
theorem completion_cases (s : State) :
    Unspent s (completion s) ∨
      completion s = engineReset .command s ∧ (∃ frame, s.link.transmitter = .sending .reply frame) ∧
        ∃ e rest, s.link.commands = e :: rest ∧ e.condition = .sending .restart := by
  unfold completion
  split
  next => exact .inl (.refl s)
  next p frame hs =>
    cases p with
    | startNotice => exact .inl (.of_reports rfl)
    | reply =>
      simp only [completeParty, completeReply]
      split
      next restarts => exact .inr ⟨rfl, ⟨frame, hs⟩, sendsRestart_head restarts⟩
      next => exact .inl (.of_reports rfl)
    | channel c =>
      exact .inl (completeCopy_unspent c s)

theorem answerBegin_unspent (s : State) : Unspent s (answerBegin s) := by
  unfold answerBegin
  split
  next => exact .of_reports rfl
  next => exact .refl s

theorem engineReset_credit (cause : ResetCause) (s : State) (c : Fin 8) :
    ((engineReset cause s).channel c).credit = 0 := congrArg Channel.credit (State.reset_channel c)

/-! ## Every row -/

/-- An event taken only when it is due (log entry 2). -/
theorem ite_unspent {s t : State} {due : Prop} [Decidable due] (h : Unspent s t) :
    Unspent s (if due then t else s) := by
  split
  · exact h
  · exact .refl s

/-- What a row can do to credit: spend none, spend one at a begin, or reset it (R136, R141, R172). -/
theorem exec_credit_cases (i : Instr) {s t : State} (h : exec i s = .next t) :
    Unspent s t ∨ (i = .transmissionBegin ∧ ∃ d copy, t = beginChannel d copy s) ∨
      (i = .resetNAssertion ∨ i = .powerOnReset ∨
          i = .transmissionCompletion ∧ t = engineReset .command s ∧
            (∃ frame, s.link.transmitter = .sending .reply frame) ∧
            ∃ e rest, s.link.commands = e :: rest ∧ e.condition = .sending .restart) ∧
        ∀ c, (t.channel c).credit = 0 := by
  cases i with
  | capture bytes => cases h; exact .inl (receive_unspent .field bytes s)
  | unknownType bytes => cases h; exact .inl (receive_unspent .field bytes s)
  | framesBad l bytes => cases h; exact .inl (receive_unspent l bytes s)
  | framesOverlong l bytes => cases h; exact .inl (receive_unspent l bytes s)
  | commandArrival bytes => cases h; exact .inl (receive_unspent .planner bytes s)
  | enrol => cases h; exact .inl (carryOut_unspent _ _ fun body => enrolAct_unspent body s)
  | amend => cases h; exact .inl (carryOut_unspent _ _ fun body => amendAct_unspent body s)
  | retire =>
    cases h
    exact .inl (carryOut_unspent _ _ fun body => onRecord_unspent body fun slot _ => retireSlot_unspent slot s)
  | bar => cases h; exact .inl (carryOut_unspent _ _ fun body => barAct_unspent body s)
  | unbar => cases h; exact .inl (carryOut_unspent _ _ fun body => unbarAct_unspent body s)
  | query => cases h; exact .inl (carryOut_unspent _ _ fun body => onRecord_unspent body fun _ _ => .refl s)
  | inject =>
    cases h
    exact .inl (carryOut_unspent _ _ fun _ => (takeCapture_unspent _ _).from_reports rfl)
  | profileSet => cases h; exact .inl (carryOut_unspent _ _ fun body => profileSetAct_unspent body s)
  | profileGet => cases h; exact .inl (carryOut_unspent _ _ fun body => profileGetAct_unspent body s)
  | list => cases h; exact .inl (carryOut_unspent _ _ fun body => listAct_unspent body s)
  | clearAlarms => cases h; exact .inl (carryOut_unspent _ _ fun body => clearAlarmsAct_unspent body s)
  | strangers => cases h; exact .inl (carryOut_unspent _ _ fun _ => .refl s)
  | dismiss => cases h; exact .inl (carryOut_unspent _ _ fun body => dismissAct_unspent body s)
  | channelSet => cases h; exact .inl (carryOut_unspent _ _ fun body => channelSetAct_unspent body s)
  | credit => cases h; exact .inl (carryOut_unspent _ _ fun body => creditAct_unspent body s)
  | sweep => cases h; exact .inl (carryOut_unspent _ _ fun body => sweepAct_unspent body s)
  | sweepAbort => cases h; exact .inl (carryOut_unspent _ _ fun body => sweepAbortAct_unspent body s)
  | setTime => cases h; exact .inl (carryOut_unspent _ _ fun _ => .of_reports rfl)
  | status => cases h; exact .inl (carryOut_unspent _ _ fun _ => .refl s)
  | config => cases h; exact .inl (carryOut_unspent _ _ fun body => configAct_unspent body s)
  | counters => cases h; exact .inl (carryOut_unspent _ _ fun body => countersAct_unspent body s)
  | restart => cases h; exact .inl (carryOut_unspent _ _ fun _ => .of_reports rfl)
  | unknownCommand => cases h; exact .inl (refuseUnknown_unspent s)
  | estimation => cases h; exact .inl (estimation_unspent s)
  | secondsEvent => cases h; exact .inl (.of_reports rfl)
  | secondsWalk => cases h; exact .inl (ite_unspent (secondsWalk_unspent s))
  | silenceCheck => cases h; exact .inl (ite_unspent (silenceCheck_unspent s))
  | strangerAging => cases h; exact .inl (ite_unspent (.of_reports rfl))
  | transmissionBegin =>
    cases h
    split
    next =>
      obtain unspent | ⟨d, copy, e⟩ := beginParty_cases s
      · exact .inl unspent
      · exact .inr (.inl ⟨rfl, d, copy, e⟩)
    next => exact .inl (.refl s)
  | transmissionCompletion =>
    cases h
    obtain unspent | ⟨reset, sends, head⟩ := completion_cases s
    · exact .inl unspent
    · refine .inr (.inr ⟨.inr (.inr ⟨rfl, reset, sends, head⟩), fun c => ?_⟩)
      rw [reset]
      exact engineReset_credit .command s c
  | answerTransmissionBegin => cases h; exact .inl (answerBegin_unspent s)
  | answerTransmissionCompletion => cases h; exact .inl (.of_reports rfl)
  | sweepVisit => cases h; exact .inl (ite_unspent (visit_unspent s))
  | sweepEndPlacement => cases h; exact .inl (ite_unspent (judgeSweepEnd_unspent s))
  | resetNAssertion => cases h; exact .inr (.inr ⟨.inl rfl, engineReset_credit .line s⟩)
  | resetNRelease => cases h; exact .inl (.of_reports rfl)
  | powerOnReset =>
    cases h
    exact .inr (.inr ⟨.inr (.inl rfl), fun c => congrArg Channel.credit (State.reset_channel c)⟩)

/-- Settles O59: a row that lowers a credit is a begin, which takes one from the channel it sends for, or a reset. -/
theorem creditSpentAtBeginOnly : Obligations.CreditSpentAtBeginOnly := by
  intro s t i c h less bound
  obtain unspent | ⟨hi, d, copy, rfl⟩ | ⟨reset, zero⟩ := exec_credit_cases i h
  · exact absurd less (unspent.not_less bound)
  · obtain ⟨rfl, spent⟩ := beginChannel_spends less
    exact .inl ⟨hi, spent, copy.report.frame d, rfl⟩
  · exact .inr ⟨reset, zero c⟩

end Sys2Proof.Machine
end

section
/-! PROOFS. The start of a sweep (08_sweeps.md): the fields of SWEEP's body as the part reads them, its refusals in the
manual's order, and what an accepted SWEEP stores. -/

namespace Sys2Proof.Machine

/-! ## Operands -/

theorem readSelection_eq_none {n : Nat} (h : 3 ≤ n) : readSelection n = none := by
  obtain ⟨k, rfl⟩ := Nat.exists_eq_add_of_le' h
  rfl

/-- The selections SWEEP accepts; BAND comes with a minimum band of 1 to 3 (R145, R179). -/
theorem readSelection_of_named {selection minimum : Nat} {kind : Selection}
    (h : selection = 0 ∧ kind = .all ∨ selection = 1 ∧ kind = .owed ∨
      selection = 2 ∧ kind = .band ∧ 1 ≤ minimum ∧ minimum ≤ 3) :
    readSelection selection = some kind ∧ (kind = .band → validMinimumBand minimum = true) := by
  obtain ⟨rfl, rfl⟩ | ⟨rfl, rfl⟩ | ⟨rfl, rfl, low, high⟩ := h
  · exact ⟨rfl, nofun⟩
  · exact ⟨rfl, nofun⟩
  · exact ⟨rfl, fun _ => validMinimumBand_of_mem low high⟩

/-- The fields of a SWEEP body as the part reads them (R182). -/
theorem sweepBody_fields {channel selection : Nat} (hc : channel < 256) (hs : selection < 256) (minimum : Byte)
    (profiles : BitVec 16) (districts : BitVec 32) :
    byteAt (sweepBody channel selection minimum profiles districts) 0 = channel ∧
      byteAt (sweepBody channel selection minimum profiles districts) 1 = selection ∧
      byteAt (sweepBody channel selection minimum profiles districts) 2 = minimum.toNat ∧
      BitVec.ofNat 16 (nat16At (sweepBody channel selection minimum profiles districts) 3) = profiles ∧
      BitVec.ofNat 32 (nat32At (sweepBody channel selection minimum profiles districts) 5) = districts := by
  have h3 : nat16At (sweepBody channel selection minimum profiles districts) 3 = profiles.toNat :=
    nat16At_be16 profiles.isLt (be32 districts.toNat)
  have h5 : nat32At (sweepBody channel selection minimum profiles districts) 5 = districts.toNat :=
    nat32At_be32 districts.isLt []
  refine ⟨byteOf_toNat_of_lt hc, byteOf_toNat_of_lt hs, rfl, ?_, ?_⟩
  · rw [h3, BitVec.ofNat_toNat, BitVec.setWidth_eq]
  · rw [h5, BitVec.ofNat_toNat, BitVec.setWidth_eq]

/-! ## SWEEP -/

/-- A sweep in progress refuses before any field is read (R145). -/
theorem sweepAct_busy {s : State} (h : s.sweep.state ≠ .idle) (body : List Byte) :
    sweepAct body s = (s, .sweep .busy s.sweep.state s.sweep.cursor) := if_pos h

/-- A channel index, a selection or a minimum band of a BAND sweep outside its range (R145). -/
theorem sweepAct_range {s : State} (idle : s.sweep.state = .idle) {body : List Byte}
    (h : index8 (byteAt body 0) = none ∨ readSelection (byteAt body 1) = none ∨
      readSelection (byteAt body 1) = some .band ∧ validMinimumBand (byteAt body 2) = false) :
    sweepAct body s = (s, .sweep .range .idle s.sweep.cursor) := by
  rw [sweepAct, if_neg (not_not.mpr idle), ← idle]
  split
  next c sel hc hs =>
    obtain h | h | ⟨band, invalid⟩ := h
    · rw [h] at hc; cases hc
    · rw [h] at hs; cases hs
    · rw [band] at hs; cases hs
      exact if_pos ⟨rfl, invalid⟩
  next => rfl

/-- With its fields in range SWEEP starts the sweep or finds the channel disabled (R145). -/
theorem sweepAct_in_range {s : State} (idle : s.sweep.state = .idle) {body : List Byte} {c : Fin 8} {sel : Selection}
    (hc : index8 (byteAt body 0) = some c) (hs : readSelection (byteAt body 1) = some sel)
    (hb : sel = .band → validMinimumBand (byteAt body 2) = true) :
    sweepAct body s =
      if (s.channel c).enabled then (startSweep c sel body s, .sweep .ok .running 0)
      else (s, .sweep .channelOff .idle s.sweep.cursor) := by
  have valid : ¬(sel = .band ∧ validMinimumBand (byteAt body 2) = false) := fun ⟨band, invalid⟩ =>
    Bool.false_ne_true (invalid.symm.trans (hb band))
  rw [sweepAct, if_neg (not_not.mpr idle), ← idle]
  simp only [hc, hs, if_neg valid]
  rfl

/-- Settles O46: the body reads back as its fields; then BUSY, RANGE and CHANNEL_OFF in turn, or the sweep started with
the fields read. -/
theorem sweepStarts : Obligations.SweepStarts := by
  intro s channel selection minimum profiles districts hc hs hx
  obtain ⟨field0, field1, field2, field3, field5⟩ := sweepBody_fields hc hs minimum profiles districts
  refine ⟨fun busy => congrArg Host.Outcome.next (carryOut_answers hx rfl (sweepAct_busy busy _)),
    fun idle => ⟨fun out => congrArg Host.Outcome.next (carryOut_answers hx rfl (sweepAct_range idle ?_)), ?_⟩⟩
  · rw [field0, field1, field2]
    obtain h | h | ⟨rfl, h⟩ := out
    · exact .inl (index8_eq_none h)
    · exact .inr (.inl (readSelection_eq_none h))
    · exact .inr (.inr ⟨rfl, validMinimumBand_eq_false h⟩)
  · rintro c kind rfl named
    obtain ⟨read, valid⟩ := readSelection_of_named named
    have act := sweepAct_in_range idle ((congrArg index8 field0).trans (index8_val c))
      ((congrArg readSelection field1).trans read) (field2 ▸ valid)
    refine ⟨fun off => congrArg Host.Outcome.next (carryOut_answers hx rfl ?_),
      fun on => congrArg Host.Outcome.next ((carryOut_acts hx rfl).trans ?_)⟩
    · rw [act, off]
      rfl
    · rw [act, on, if_pos rfl, startSweep, field3, field5]
      rfl

end Sys2Proof.Machine
end

section
/-! PROOFS. The Street Clock (09_the_street_clock.md): the oscillations and the seconds event, SET-TIME, what every row
leaves of the clock, and from the few ways a row can change it the clock law. -/

namespace Sys2Proof.Machine

/-! ## The divider and the seconds event -/

theorem step_of_empty {s : State} (h : s.pending = []) : step s = .next (oscillate s) := by
  simp only [step, h]

theorem oscillate_below {s : State} (h : s.clock.divider + 1 < 32768) :
    oscillate s = s.setClock { s.clock with divider := s.clock.divider + 1 } := if_pos h

/-- The last oscillation of a count is the seconds event (R156). -/
theorem oscillate_last {s : State} (h : 32768 ≤ s.clock.divider + 1) : oscillate s = secondsEvent s :=
  if_neg (Nat.not_lt.mpr h)

/-- Settles O2: the idle step by the divider's position; the seconds event saturates as R156 says. -/
theorem secondsAreCounted : Obligations.SecondsAreCounted := by
  refine ⟨fun s empty => ⟨fun below => ?_, fun last => ?_⟩, fun s => rfl⟩
  · rw [step_of_empty empty, oscillate_below below]
  · rw [step_of_empty empty, oscillate_last last]
    rfl

/-! ## SET-TIME -/

/-- A body of a length the command does not have is answered BAD_LENGTH (R183). -/
theorem carryOut_badLength {s : State} {type : Byte} {body : List Byte} {lengthOk : Nat → Bool}
    (act : List Byte → State → State × Reply) (h : Executing s type body) (hl : lengthOk body.length = false) :
    carryOut type lengthOk act s = s.answerHeld .badLength := by
  rw [carryOut_executing h, hl, if_neg Bool.false_ne_true]

/-- Under the offset that SET-TIME stores, the uptime it is taken at converts to the street time given (R158, R159). -/
theorem stamp_of_offset {c : Clock} {street uptime : Nat} (set : c.isSet = true) (hs : street < 4294967296)
    (ho : c.offset = BitVec.ofNat 32 street - BitVec.ofNat 32 uptime) : stamp c uptime = street := by
  rw [stamp, if_pos set, ho, BitVec.toNat_sub, BitVec.toNat_ofNat, BitVec.toNat_ofNat]
  omega

theorem setTimeAct_stores {street : Nat} (hs : street < 4294967296) {offset : BitVec 32} {s : State}
    (ho : offset = BitVec.ofNat 32 street - BitVec.ofNat 32 s.clock.uptime) :
    setTimeAct (setTimeBody street) s =
      (s.setClock { s.clock with isSet := true, offset := offset }, .time offset s.clock.uptime street) := by
  have given : nat32At (setTimeBody street) 0 = street := by
    simpa only [setTimeBody, List.append_nil] using nat32At_be32 hs []
  have converted : stamp { s.clock with isSet := true, offset := offset } s.clock.uptime = street :=
    stamp_of_offset rfl hs ho
  rw [setTimeAct, given, ← ho]
  simp only [converted]

/-- Settles O49: the body reads back as the street time, which the offset then gives for the uptime; a body of another
length is refused before it is read. -/
theorem setTimeStores : Obligations.SetTimeStores := by
  refine ⟨fun s street offset hs hx ho _ => ?_, fun s body hl hx => ?_⟩
  · refine congrArg Host.Outcome.next ((carryOut_acts hx rfl).trans ?_)
    rw [setTimeAct_stores hs ho]
  · exact congrArg Host.Outcome.next (carryOut_badLength setTimeAct hx (beq_false_of_ne hl))

/-! ## The clock under the shared operations -/

@[simp] theorem queueCopy_clock (o : Offer) (c : Fin 8) (s : State) : (queueCopy o c s).clock = s.clock :=
  (offersOnly_queueCopy o c s).clock

@[simp] theorem flush_clock (c : Fin 8) (s : State) : (flush c s).clock = s.clock := (offersOnly_flush c s).clock

@[simp] theorem settle_clock (s : State) (o : Offer) : (settle s o).clock = s.clock := (settle_spec s o).1.clock

@[simp] theorem settleAll_clock (offers : List Offer) (s : State) : (settleAll offers s).clock = s.clock :=
  (settleAll_spec offers s).1.clock

@[simp] theorem replaceRecord_clock (slot : Nat) (out : BinRecord × List Raised) (s : State) :
    (replaceRecord slot out s).clock = s.clock := settleAll_clock _ _

theorem putMoves_clock (moves : List Move) (s : State) :
    (moves.foldl (fun t m => t.putBin m.1 m.2.1) s).clock = s.clock := by
  induction moves generalizing s with
  | nil => rfl
  | cons m moves ih => exact ih _

@[simp] theorem applyMoves_clock (time : Nat) (moves : List Move) (s : State) :
    (applyMoves time moves s).clock = s.clock :=
  (settleAll_clock _ _).trans (putMoves_clock moves s)

@[simp] theorem makeAnswer_clock (source : Source) (r : BinRecord) (seq : BitVec 4) (v : Verdict) (s : State) :
    (makeAnswer source r seq v s).clock = s.clock := by
  obtain ⟨a, k, e⟩ := makeAnswer_frame source r seq v s
  rw [e, State.setIntake_clock]

theorem judgeSweepEnd_clock (s : State) : (judgeSweepEnd s).clock = s.clock := by
  obtain ⟨-, e⟩ | ⟨-, e⟩ := judgeSweepEnd_cases s
  · rw [e, State.setSweep_clock, queueCopy_clock]
  · rw [e]

@[simp] theorem enterClosing_clock (why : PendingEnd) (s : State) : (enterClosing why s).clock = s.clock :=
  judgeSweepEnd_clock _

@[simp] theorem notifySweep_clock (s : State) : (notifySweep s).clock = s.clock := by
  unfold notifySweep
  split
  · rfl
  · exact judgeSweepEnd_clock s
  · rfl
  · rfl

/-! ## Captures and reception -/

theorem admitCapture_clock (cap : Capture) (g : GoodFrame) (gap slot : Nat) (r : BinRecord) (s : State) :
    (admitCapture cap g gap slot r s).1.clock = s.clock := by
  have held : (takeHeld cap g r s).clock = s.clock := makeAnswer_clock ..
  have accepted : (takeAccepted cap g gap slot r s).clock = s.clock := makeAnswer_clock ..
  unfold admitCapture
  split
  next =>
    split
    · exact held
    · exact accepted
  next =>
    split
    · rfl
    · exact accepted
  next =>
    split
    · exact held
    · exact accepted

theorem classify_clock (cap : Capture) (g : GoodFrame) (slot : Nat) (r : BinRecord) (s : State) :
    (classify cap g slot r s).1.clock = s.clock := by
  unfold classify
  split
  next => exact makeAnswer_clock ..
  next =>
    split
    · exact makeAnswer_clock ..
    · exact makeAnswer_clock ..
    · exact admitCapture_clock ..

theorem hearStranger_clock (h : Hearing) (s : State) : (hearStranger h s).clock = s.clock := by
  unfold hearStranger
  split
  next => rfl
  next =>
    split
    next => exact settle_clock _ _
    next => rfl

theorem takeCapture_clock (cap : Capture) (s : State) : (takeCapture cap s).1.clock = s.clock := by
  unfold takeCapture
  split
  next why _ =>
    dsimp only
    exact settle_clock _ _
  next =>
    split
    next => exact hearStranger_clock _ _
    next => exact classify_clock ..

theorem fieldFound_clock (f : Finding) (s : State) : (fieldFound f s).clock = s.clock := by
  cases f with
  | collecting held => rfl
  | arrived type tag body rest =>
    change (fieldArrival type body (s.setFieldHeld rest)).clock = s.clock
    unfold fieldArrival
    split
    · exact takeCapture_clock _ _
    · rfl
  | bad rest => rfl
  | overlong rest => rfl

theorem plannerFound_clock (f : Finding) (s : State) : (plannerFound f s).clock = s.clock := by
  cases f with
  | collecting held => rfl
  | arrived type tag body rest =>
    change (commandArrives type tag body (s.setPlannerHeld rest)).clock = s.clock
    unfold commandArrives
    split
    · rfl
    · rfl
  | bad rest => rfl
  | overlong rest => rfl

theorem receive_clock (l : Link) (bytes : List Byte) (s : State) : (receive l bytes s).clock = s.clock := by
  unfold receive
  split
  · rfl
  · cases l with
    | planner => exact plannerFound_clock _ s
    | field => exact fieldFound_clock _ s

/-! ## Executions of held commands -/

theorem onRecord_clock (body : List Byte) {s : State} {act : Nat → BinRecord → State × Reply}
    (h : ∀ slot r, (act slot r).1.clock = s.clock) : (onRecord body s act).1.clock = s.clock := by
  obtain ⟨st, e⟩ | ⟨slot, r, -, e⟩ := onRecord_cases body s act
  · rw [e]
  · rw [e]; exact h slot r

theorem enrolAct_clock (body : List Byte) (s : State) : (enrolAct body s).1.clock = s.clock := by
  rw [enrolAct]
  repeat' split
  all_goals rfl

theorem amendAct_clock (body : List Byte) (s : State) : (amendAct body s).1.clock = s.clock :=
  onRecord_clock body fun slot r => by
    simp only
    split
    · exact replaceRecord_clock slot _ s
    · rfl

theorem barAct_clock (body : List Byte) (s : State) : (barAct body s).1.clock = s.clock :=
  onRecord_clock body fun slot r => by
    split
    · rfl
    · rfl

theorem unbarAct_clock (body : List Byte) (s : State) : (unbarAct body s).1.clock = s.clock :=
  onRecord_clock body fun slot r => by
    split
    · exact replaceRecord_clock slot _ s
    · rfl

theorem profileSetAct_clock (body : List Byte) (s : State) : (profileSetAct body s).1.clock = s.clock := by
  simp only [profileSetAct, storeProfile]
  repeat' split
  all_goals rfl

theorem profileGetAct_clock (body : List Byte) (s : State) : (profileGetAct body s).1.clock = s.clock := by
  unfold profileGetAct
  split
  · rfl
  · rfl

theorem listAct_clock (body : List Byte) (s : State) : (listAct body s).1.clock = s.clock := by
  rw [listAct]
  split
  · rfl
  · rfl

theorem clearAlarmsAct_clock (body : List Byte) (s : State) : (clearAlarmsAct body s).1.clock = s.clock := by
  rw [clearAlarmsAct]
  repeat' split
  all_goals rfl

theorem dismissAct_clock (body : List Byte) (s : State) : (dismissAct body s).1.clock = s.clock := by
  rw [dismissAct]
  repeat' split
  all_goals rfl

theorem configAct_clock (body : List Byte) (s : State) : (configAct body s).1.clock = s.clock := by
  rw [configAct]
  split
  · rfl
  · rfl

theorem countersAct_clock (body : List Byte) (s : State) : (countersAct body s).1.clock = s.clock := by
  simp only [countersAct]
  repeat' split
  all_goals rfl

theorem refuseUnknown_clock (s : State) : (refuseUnknown s).clock = s.clock := by
  unfold refuseUnknown
  repeat' split
  all_goals rfl

/-! ## The channels and the sweep -/

theorem disableChannel_clock (c : Fin 8) (s : State) : (disableChannel c s).clock = s.clock := by
  unfold disableChannel
  simp only
  split
  · exact flush_clock c s
  · exact (notifySweep_clock _).trans (flush_clock c s)

theorem channelSetAct_clock (body : List Byte) (s : State) : (channelSetAct body s).1.clock = s.clock := by
  unfold channelSetAct
  split
  · split
    · rfl
    · simp only [setChannel]
      split
      · exact disableChannel_clock _ _
      · rfl
  · rfl

theorem creditAct_clock (body : List Byte) (s : State) : (creditAct body s).1.clock = s.clock := by
  unfold creditAct
  split
  · rfl
  · rfl

theorem sweepAct_clock (body : List Byte) (s : State) : (sweepAct body s).1.clock = s.clock := by
  unfold sweepAct
  repeat' split
  all_goals rfl

theorem sweepAbortAct_clock (body : List Byte) (s : State) : (sweepAbortAct body s).1.clock = s.clock := by
  unfold sweepAbortAct
  split
  · dsimp only
    exact enterClosing_clock .aborted s
  · dsimp only
    exact enterClosing_clock .aborted s
  · rfl
  · rfl

theorem passSlot_clock (s : State) : (passSlot s).clock = s.clock := by
  unfold passSlot
  simp only
  split
  · exact enterClosing_clock _ _
  · rfl

theorem visit_clock (s : State) : (visit s).clock = s.clock := by
  unfold visit
  split
  next => exact passSlot_clock s
  next =>
    split
    next => rw [passSlot_clock, State.setSweep_clock, queueCopy_clock]
    next => rfl

/-! ## Estimations, begins and completions -/

theorem estimation_clock (s : State) : (estimation s).clock = s.clock := by
  unfold estimation
  split
  next => rfl
  next =>
    simp only
    split
    next => rfl
    next =>
      split
      next => rfl
      next => exact replaceRecord_clock _ _ _

theorem beginParty_clock (s : State) : (beginParty s).clock = s.clock := by
  unfold beginParty beginChosen
  repeat' split
  all_goals rfl

/-- A completion keeps the clock, even that of a RESTART's reply: the engine reset does (R161, R172). -/
theorem completion_clock (s : State) : (completion s).clock = s.clock := by
  unfold completion
  split
  next => rfl
  next p _ _ =>
    cases p with
    | startNotice => rfl
    | reply =>
      simp only [completeParty, completeReply]
      split
      · rfl
      · rfl
    | channel c => exact notifySweep_clock _

theorem answerBegin_clock (s : State) : (answerBegin s).clock = s.clock := by
  unfold answerBegin
  split
  next => rfl
  next => rfl

/-! ## The ways a clock changes -/

/-- What a row other than the power-on reset can do to the clock: an oscillation, the end of a count, SET-TIME, or an
owner taking a second that has been reached (R156, R157, R159). -/
inductive ClockChange (c : Clock) : Clock → Prop
  | stands : ClockChange c c
  | oscillates (h : c.divider + 1 < 32768) : ClockChange c { c with divider := c.divider + 1 }
  | counts : ClockChange c { c with uptime := raise32 c.uptime 1, divider := 0 }
  | sets (offset : BitVec 32) : ClockChange c { c with isSet := true, offset := offset }
  | walks (h : c.walked < c.uptime) : ClockChange c { c with walked := c.walked + 1 }
  | checks (h : c.checked < c.uptime) : ClockChange c { c with checked := c.checked + 1 }
  | ages (h : c.aged < c.uptime) : ClockChange c { c with aged := c.aged + 1 }

theorem ClockChange.of_eq {c d : Clock} (h : d = c) : ClockChange c d := h ▸ .stands

theorem oscillate_clockChange (s : State) : ClockChange s.clock (oscillate s).clock := by
  obtain below | last := Nat.lt_or_ge (s.clock.divider + 1) 32768
  · rw [oscillate_below below]; exact .oscillates below
  · rw [oscillate_last last]; exact .counts

/-- An execution changes the clock as the block's act does (R166). -/
theorem carryOut_clockChange (type : Byte) (lengthOk : Nat → Bool) {act : List Byte → State → State × Reply} {s : State}
    (h : ∀ body, ClockChange s.clock (act body s).1.clock) :
    ClockChange s.clock (carryOut type lengthOk act s).clock := by
  obtain e | e | ⟨body, -, -, e⟩ := carryOut_cases type lengthOk act s
  · rw [e]; exact .stands
  · rw [e]; exact .stands
  · rw [e]; exact h body

theorem carryOut_keepsClock (type : Byte) (lengthOk : Nat → Bool) {act : List Byte → State → State × Reply} {s : State}
    (h : ∀ body, (act body s).1.clock = s.clock) : ClockChange s.clock (carryOut type lengthOk act s).clock :=
  carryOut_clockChange type lengthOk fun body => .of_eq (h body)

/-- An event taken only when it is due (log entry 2). -/
theorem ite_clockChange {s t : State} {due : Prop} [Decidable due] (h : due → ClockChange s.clock t.clock) :
    ClockChange s.clock (if due then t else s).clock := by
  split
  next taken => exact h taken
  next => exact .stands

theorem secondsWalk_clock (s : State) : (secondsWalk s).clock = { s.clock with walked := s.clock.walked + 1 } :=
  applyMoves_clock _ _ _

theorem silenceCheck_clock (s : State) : (silenceCheck s).clock = { s.clock with checked := s.clock.checked + 1 } :=
  applyMoves_clock _ _ _

/-! ## Every row, every step -/

/-- Every row changes the clock in one of the ways, and only the power-on reset starts it afresh (R161). -/
theorem exec_clockChange (i : Instr) {s t : State} (h : exec i s = .next t) :
    i = .powerOnReset ∧ t.clock = State.reset.clock ∨ ClockChange s.clock t.clock := by
  cases i with
  | capture bytes => cases h; exact .inr (.of_eq (receive_clock .field bytes s))
  | unknownType bytes => cases h; exact .inr (.of_eq (receive_clock .field bytes s))
  | framesBad l bytes => cases h; exact .inr (.of_eq (receive_clock l bytes s))
  | framesOverlong l bytes => cases h; exact .inr (.of_eq (receive_clock l bytes s))
  | commandArrival bytes => cases h; exact .inr (.of_eq (receive_clock .planner bytes s))
  | enrol => cases h; exact .inr (carryOut_keepsClock _ _ fun body => enrolAct_clock body s)
  | amend => cases h; exact .inr (carryOut_keepsClock _ _ fun body => amendAct_clock body s)
  | retire => cases h; exact .inr (carryOut_keepsClock _ _ fun body => onRecord_clock body fun _ _ => rfl)
  | bar => cases h; exact .inr (carryOut_keepsClock _ _ fun body => barAct_clock body s)
  | unbar => cases h; exact .inr (carryOut_keepsClock _ _ fun body => unbarAct_clock body s)
  | query => cases h; exact .inr (carryOut_keepsClock _ _ fun body => onRecord_clock body fun _ _ => rfl)
  | inject => cases h; exact .inr (carryOut_keepsClock _ _ fun _ => takeCapture_clock _ _)
  | profileSet => cases h; exact .inr (carryOut_keepsClock _ _ fun body => profileSetAct_clock body s)
  | profileGet => cases h; exact .inr (carryOut_keepsClock _ _ fun body => profileGetAct_clock body s)
  | list => cases h; exact .inr (carryOut_keepsClock _ _ fun body => listAct_clock body s)
  | clearAlarms => cases h; exact .inr (carryOut_keepsClock _ _ fun body => clearAlarmsAct_clock body s)
  | strangers => cases h; exact .inr (carryOut_keepsClock _ _ fun _ => rfl)
  | dismiss => cases h; exact .inr (carryOut_keepsClock _ _ fun body => dismissAct_clock body s)
  | channelSet => cases h; exact .inr (carryOut_keepsClock _ _ fun body => channelSetAct_clock body s)
  | credit => cases h; exact .inr (carryOut_keepsClock _ _ fun body => creditAct_clock body s)
  | sweep => cases h; exact .inr (carryOut_keepsClock _ _ fun body => sweepAct_clock body s)
  | sweepAbort => cases h; exact .inr (carryOut_keepsClock _ _ fun body => sweepAbortAct_clock body s)
  | setTime => cases h; exact .inr (carryOut_clockChange _ _ fun _ => .sets _)
  | status => cases h; exact .inr (carryOut_keepsClock _ _ fun _ => rfl)
  | config => cases h; exact .inr (carryOut_keepsClock _ _ fun body => configAct_clock body s)
  | counters => cases h; exact .inr (carryOut_keepsClock _ _ fun body => countersAct_clock body s)
  | restart => cases h; exact .inr (carryOut_keepsClock _ _ fun _ => rfl)
  | unknownCommand => cases h; exact .inr (.of_eq (refuseUnknown_clock s))
  | estimation => cases h; exact .inr (.of_eq (estimation_clock s))
  | secondsEvent => cases h; exact .inr .counts
  | secondsWalk => cases h; exact .inr (ite_clockChange fun due => secondsWalk_clock s ▸ .walks due)
  | silenceCheck => cases h; exact .inr (ite_clockChange fun due => silenceCheck_clock s ▸ .checks due)
  | strangerAging => cases h; exact .inr (ite_clockChange fun due => .ages due)
  | transmissionBegin => cases h; exact .inr (ite_clockChange fun _ => .of_eq (beginParty_clock s))
  | transmissionCompletion => cases h; exact .inr (.of_eq (completion_clock s))
  | answerTransmissionBegin => cases h; exact .inr (.of_eq (answerBegin_clock s))
  | answerTransmissionCompletion => cases h; exact .inr .stands
  | sweepVisit => cases h; exact .inr (ite_clockChange fun _ => .of_eq (visit_clock s))
  | sweepEndPlacement => cases h; exact .inr (ite_clockChange fun _ => .of_eq (judgeSweepEnd_clock s))
  | resetNAssertion => cases h; exact .inr .stands
  | resetNRelease => cases h; exact .inr .stands
  | powerOnReset => cases h; exact .inl ⟨rfl, rfl⟩

theorem step_clockChange {s t : State} (h : step s = .next t) :
    s.pending.head? = some .powerOnReset ∧ t.clock = State.reset.clock ∨ ClockChange s.clock t.clock := by
  unfold step at h
  split at h
  next => cases h; exact .inr (oscillate_clockChange s)
  next i rest front =>
    obtain ⟨rfl, afresh⟩ | change := exec_clockChange i h
    · exact .inl ⟨by rw [front, List.head?_cons], afresh⟩
    · exact .inr change

/-! ## The clock law -/

theorem ClockLaw.of_clock {s t : State} (h : ClockLaw s) (e : t.clock = s.clock) : ClockLaw t where
  uptime := e ▸ h.uptime
  divider := e ▸ h.divider
  walked := e ▸ h.walked
  checked := e ▸ h.checked
  aged := e ▸ h.aged

/-- A count that ends raises uptime or leaves it at its limit, so it never falls (R156). -/
theorem le_raise32 {n : Nat} (h : n ≤ 4294967295) : n ≤ raise32 n 1 := le_min (Nat.le_succ n) h

/-- Each change keeps the law and does not lower uptime: an owner's count rises only while it is below uptime (R157). -/
theorem ClockLaw.change {s : State} {d : Clock} (h : ClockLaw s) (k : ClockChange s.clock d) :
    ClockLaw (s.setClock d) ∧ s.clock.uptime ≤ d.uptime := by
  cases k with
  | stands => exact ⟨h.of_clock rfl, le_rfl⟩
  | oscillates below => exact ⟨{ h with divider := below }, le_rfl⟩
  | counts =>
    have rises := le_raise32 h.uptime
    exact ⟨{ uptime := Nat.min_le_right _ _
             divider := Nat.zero_lt_succ _
             walked := h.walked.trans rises
             checked := h.checked.trans rises
             aged := h.aged.trans rises }, rises⟩
  | sets offset => exact ⟨{ h with }, le_rfl⟩
  | walks due => exact ⟨{ h with walked := due }, le_rfl⟩
  | checks due => exact ⟨{ h with checked := due }, le_rfl⟩
  | ages due => exact ⟨{ h with aged := due }, le_rfl⟩

/-- Settles O58: a step starts the clock afresh at a power-on reset, or changes it in a way that keeps the law. -/
theorem uptimeNeverDecreases : Obligations.UptimeNeverDecreases := by
  intro s t law h
  obtain ⟨reset, afresh⟩ | change := step_clockChange h
  · exact ⟨clockLaw_reset.of_clock afresh, fun notReset => absurd reset notReset⟩
  · obtain ⟨kept, rises⟩ := law.change change
    exact ⟨kept.of_clock rfl, fun _ => rises⟩

end Sys2Proof.Machine
end

section
/-! PROOFS. Reception on both links (10_planner_link.md, 11_message_formats.md): how a receiver hunts and judges the
bytes behind a lead byte, the frame read back, and the events of the reception rows at either level of RESET_N. -/

namespace Sys2Proof.Machine

/-! ## What a receiver finds -/

/-- Bytes without a lead byte are passed over (R162). -/
theorem hunt_noise {noise : List Byte} (quiet : ∀ b ∈ noise, b ≠ 0xC3#8) (l : List Byte) :
    hunt (noise ++ l) = hunt l := by
  induction noise with
  | nil => rfl
  | cons b noise ih =>
    obtain ⟨hb, hn⟩ := List.forall_mem_cons.mp quiet
    exact (if_neg hb).trans (ih hn)

/-- At a lead byte the hunt ends (R162). -/
theorem hunt_lead (l : List Byte) : hunt (0xC3#8 :: l) = 0xC3#8 :: l := if_pos rfl

theorem byteAt_drop (l : List Byte) (n i : Nat) : byteAt (l.drop n) i = byteAt l (n + i) := by
  simp [byteAt, List.getD_eq_getElem?_getD]

/-- The two bytes at an offset are the first two of what is left there. -/
theorem nat16At_drop (l : List Byte) (n : Nat) : nat16At (l.drop n) 0 = nat16At l n := by
  simp only [nat16At, byteAt_drop, Nat.add_zero, Nat.zero_add]

section

variable {noise : List Byte} (quiet : ∀ b ∈ noise, b ≠ 0xC3#8)
include quiet

/-- A receiver that sees no lead byte goes on hunting (R162). -/
theorem findFrame_noise : findFrame noise = .collecting [] := by
  have passed : hunt noise = [] := by simpa only [List.append_nil, hunt] using hunt_noise quiet []
  simp only [findFrame, passed]

/-- A frame is not judged before both length bytes have come (R162). -/
theorem findFrame_lead : findFrame (noise ++ [0xC3#8]) = .collecting [0xC3#8] := by
  simp only [findFrame, hunt_noise quiet, hunt_lead]

theorem findFrame_lead_high (h : Byte) : findFrame (noise ++ [0xC3#8, h]) = .collecting [0xC3#8, h] := by
  simp only [findFrame, hunt_noise quiet, hunt_lead]

variable {h l : Byte} {more : List Byte} {n : Nat} (length : h.toNat * 256 + l.toNat = n)
include length

/-- What the length field and the bytes behind it make, once a lead byte and the field have come (R162). -/
theorem findFrame_length :
    findFrame (noise ++ 0xC3#8 :: h :: l :: more) =
      if n < 2 ∨ 600 < n then .overlong (hunt (h :: l :: more))
      else if more.length < n + 2 then .collecting (0xC3#8 :: h :: l :: more)
      else judgeCollected h l more n := by
  simp only [findFrame, hunt_noise quiet, hunt_lead, length]

theorem findFrame_overlong (outside : n < 2 ∨ 600 < n) :
    findFrame (noise ++ 0xC3#8 :: h :: l :: more) = .overlong (hunt (h :: l :: more)) := by
  rw [findFrame_length quiet length, if_pos outside]

variable (low : 2 ≤ n) (high : n ≤ 600)
include low high

theorem findFrame_unfinished (short : more.length < n + 2) :
    findFrame (noise ++ 0xC3#8 :: h :: l :: more) = .collecting (0xC3#8 :: h :: l :: more) := by
  have inside : ¬(n < 2 ∨ 600 < n) := by omega
  rw [findFrame_length quiet length, if_neg inside, if_pos short]

theorem findFrame_collected (whole : n + 2 ≤ more.length) :
    findFrame (noise ++ 0xC3#8 :: h :: l :: more) = judgeCollected h l more n := by
  have inside : ¬(n < 2 ∨ 600 < n) := by omega
  rw [findFrame_length quiet length, if_neg inside, if_neg (Nat.not_lt.mpr whole)]

end

theorem judgeCollected_bad {h l : Byte} {more : List Byte} {n : Nat}
    (mismatch : crc16 (h :: l :: more.take n) ≠ BitVec.ofNat 16 (nat16At more n)) :
    judgeCollected h l more n = .bad (hunt (h :: l :: more)) := by
  rw [judgeCollected, nat16At_drop, if_neg mismatch]

/-- The bytes behind the length field of a frame, judged with that length, are the frame (R162, R177). -/
theorem judgeCollected_written {h l type tag : Byte} {body rest : List Byte} {crc : BitVec 16}
    (covered : crc16 (h :: l :: type :: tag :: body) = crc) :
    judgeCollected h l (type :: tag :: body ++ be16 crc.toNat ++ rest) (body.length + 2) =
      .arrived type tag body (hunt rest) := by
  have taken : (type :: tag :: body ++ be16 crc.toNat ++ rest).take (body.length + 2) = type :: tag :: body := by
    rw [List.append_assoc]; exact List.take_left' rfl
  have checked : (type :: tag :: body ++ be16 crc.toNat ++ rest).drop (body.length + 2) = be16 crc.toNat ++ rest := by
    rw [List.append_assoc]; exact List.drop_left' rfl
  have behind : (type :: tag :: body ++ be16 crc.toNat ++ rest).drop (body.length + 2 + 2) = rest :=
    List.drop_left' (by simp)
  have intact : crc16 (h :: l :: type :: tag :: body) = BitVec.ofNat 16 crc.toNat := by simp [covered]
  rw [judgeCollected, taken, checked, behind, nat16At_be16 crc.isLt, if_pos intact]
  rfl

/-- Settles O4: the noise is passed over, the length field reads back as the bytes of type, tag and body, and the CRC
the sender wrote is the one the receiver computes. -/
theorem frameRoundTrip : Obligations.FrameRoundTrip := by
  intro noise type tag body rest quiet short
  have length : (byteOf ((body.length + 2) / 256)).toNat * 256 + (byteOf (body.length + 2)).toNat =
      body.length + 2 := nat16At_be16 (by omega) []
  have written : noise ++ frameBytes type tag body ++ rest =
      noise ++ 0xC3#8 :: byteOf ((body.length + 2) / 256) :: byteOf (body.length + 2) ::
        (type :: tag :: body ++ be16 (crc16 (coveredBytes type tag body)).toNat ++ rest) := by
    rw [List.append_assoc]
    rfl
  rw [written, findFrame_collected quiet length (by omega) (by omega) (by simp)]
  exact judgeCollected_written rfl

/-- Settles O5: the length field decides first, then the bytes that have come, then the CRC. -/
theorem receiverDiscards : Obligations.ReceiverDiscards := by
  intro noise quiet
  refine ⟨findFrame_noise quiet, findFrame_lead quiet, findFrame_lead_high quiet, fun h l more =>
    ⟨findFrame_overlong quiet rfl, findFrame_unfinished quiet rfl, fun low high whole mismatch => ?_⟩⟩
  rw [findFrame_collected quiet rfl low high whole, judgeCollected_bad mismatch]

/-! ## The reception rows -/

/-- While RESET_N is low a receiver passes over every byte (R173). -/
theorem receive_low {s : State} (low : s.link.resetLow = true) (l : Link) (bytes : List Byte) :
    receive l bytes s = s := if_pos low

theorem receive_field {s : State} {bytes : List Byte} {f : Finding} (high : s.link.resetLow = false)
    (found : findFrame (s.link.fieldHeld ++ bytes) = f) : receive .field bytes s = fieldFound f s := by
  subst found
  exact if_neg (ne_true_of_eq_false high)

theorem receive_planner {s : State} {bytes : List Byte} {f : Finding} (high : s.link.resetLow = false)
    (found : findFrame (s.link.plannerHeld ++ bytes) = f) : receive .planner bytes s = plannerFound f s := by
  subst found
  exact if_neg (ne_true_of_eq_false high)

/-- A field link frame that is no capture is discarded and counted (R163). -/
theorem fieldArrival_unknown {type : Byte} (other : type ≠ 0x20#8) (body : List Byte) (s : State) :
    fieldArrival type body s = s.countLink fun k => { k with unknownType := raise32 k.unknownType 1 } := if_neg other

theorem commandArrives_room (type tag : Byte) (body : List Byte) {s : State} (room : s.link.commands.length < 4) :
    commandArrives type tag body s = s.setLink
      { s.link with
        commands := s.link.commands ++ [{ type := type, tag := tag, body := body, condition := .held }] } :=
  if_pos room

theorem commandArrives_full (type tag : Byte) (body : List Byte) {s : State} (full : 4 ≤ s.link.commands.length) :
    commandArrives type tag body s =
      s.countLink fun k => { k with commandsOverflow := raise32 k.commandsOverflow 1 } := if_neg (Nat.not_lt.mpr full)

/-- Settles O6: each row takes the event its link's receiver finds, and each event writes the receiver and one counter
or the Command Queue. -/
theorem arrivalsAndDiscards : Obligations.ArrivalsAndDiscards := by
  refine ⟨fun s bytes rest high =>
    ⟨fun found => congrArg Host.Outcome.next (receive_field high found),
      fun found => congrArg Host.Outcome.next (receive_planner high found),
      fun found => congrArg Host.Outcome.next (receive_field high found),
      fun found => congrArg Host.Outcome.next (receive_planner high found),
      fun type tag body other found => congrArg Host.Outcome.next ?_⟩,
    fun s bytes rest body type tag high found =>
      ⟨fun room => congrArg Host.Outcome.next ?_, fun full => congrArg Host.Outcome.next ?_⟩⟩
  · exact (receive_field high found).trans (fieldArrival_unknown other body (s.setFieldHeld rest))
  · exact (receive_planner high found).trans (commandArrives_room type tag body (s := s.setPlannerHeld rest) room)
  · exact (receive_planner high found).trans (commandArrives_full type tag body (s := s.setPlannerHeld rest) full)

/-- While RESET_N is low no answer frame begins (R173). -/
theorem answerBegin_low {s : State} (low : s.link.resetLow = true) : answerBegin s = s := by
  simp only [answerBegin, low]

/-- Settles O7: the receivers pass over the bytes and both transmitters are held. -/
theorem resetLineHoldsLinks : Obligations.ResetLineHoldsLinks := by
  intro s bytes l low
  have passed (l : Link) : Host.Outcome.next (receive l bytes s) = (.next s : Host.Outcome State Fault Refusal) :=
    congrArg Host.Outcome.next (receive_low low l bytes)
  have held : ¬(s.link.resetLow = false ∧ s.link.transmitter = .idle) := fun ⟨high, _⟩ =>
    Bool.noConfusion (low.symm.trans high)
  exact ⟨passed .field, passed .field, passed l, passed l, passed .planner, congrArg Host.Outcome.next (if_neg held),
    congrArg Host.Outcome.next (answerBegin_low low)⟩

end Sys2Proof.Machine
end

section
/-! PROOFS. The Command Queue's executions (10_planner_link.md): the oldest held entry answered where it stands, the
commands by their table of body lengths (R182), COUNTERS, and what a pending restart holds back. -/

namespace Sys2Proof.Machine

/-! ## The oldest held entry -/

theorem isHeld_iff (e : Command) : e.isHeld = true ↔ e.condition = .held := beq_iff_eq

/-- The entries before the oldest held one, and those behind it, stand (R165). -/
theorem answerFirst_append {before after : List Command} {e : Command} (r : Reply) (held : e.condition = .held)
    (others : ∀ x ∈ before, x.condition ≠ .held) :
    answerFirst r (before ++ e :: after) = before ++ { e with condition := .answered r } :: after := by
  induction before with
  | nil => exact if_pos ((isHeld_iff e).mpr held)
  | cons x before ih =>
    obtain ⟨notHeld, rest⟩ := List.forall_mem_cons.mp others
    exact (if_neg (mt (isHeld_iff x).mp notHeld)).trans (congrArg (x :: ·) (ih rest))

theorem isCommandType_eq_false {type : Byte} (h : type.toNat = 0 ∨ 0x16 < type.toNat) : isCommandType type = false := by
  simp only [isCommandType, Bool.and_eq_false_iff, decide_eq_false_iff_not]
  omega

theorem refuseUnknown_executing {s : State} {type : Byte} {body : List Byte} (h : Executing s type body)
    (unknown : isCommandType type = false) : refuseUnknown s = s.answerHeld (.unknownCommand type) := by
  obtain ⟨free, front⟩ := h
  obtain ⟨e, oldest, same⟩ := Option.map_eq_some_iff.mp front
  cases same
  simp [refuseUnknown, oldest, free, unknown]

/-! ## While a restart is pending -/

/-- While a restart is pending no command is carried out (R172). -/
theorem carryOut_restartPending {s : State} (h : s.link.restartPending = true) (type : Byte) (lengthOk : Nat → Bool)
    (act : List Byte → State → State × Reply) : carryOut type lengthOk act s = s := by
  unfold carryOut
  split
  · rfl
  · rw [h, Bool.true_or, if_pos rfl]

theorem refuseUnknown_restartPending {s : State} (h : s.link.restartPending = true) : refuseUnknown s = s := by
  unfold refuseUnknown
  split
  · rfl
  · rw [h, Bool.true_or, if_pos rfl]

/-! ## The table of commands -/

/-- The 22 command types, the rows that carry them out, and the body lengths they allow (R166, R182). -/
def commandTable : List (Byte × Instr × List Nat) :=
  [(0x01#8, .enrol, [7]), (0x02#8, .amend, [8]), (0x03#8, .retire, [4]), (0x04#8, .bar, [4]), (0x05#8, .unbar, [4]),
    (0x06#8, .query, [4]), (0x07#8, .inject, (List.range 595).map (· + 4)), (0x08#8, .profileSet, [16]),
    (0x09#8, .profileGet, [1]), (0x0A#8, .list, [8]), (0x0B#8, .clearAlarms, [5]), (0x0C#8, .strangers, [0]),
    (0x0D#8, .dismiss, [4]), (0x0E#8, .channelSet, [10]), (0x0F#8, .credit, [3]), (0x10#8, .sweep, [9]),
    (0x11#8, .sweepAbort, [0]), (0x12#8, .setTime, [4]), (0x13#8, .status, [0]), (0x14#8, .config, [11]),
    (0x15#8, .counters, [1]), (0x16#8, .restart, [0])]

/-- The row is the execution of the command type, and refuses every body length but those listed (R166, R183). -/
def CarriesOut (type : Byte) (i : Instr) (lengths : List Nat) : Prop :=
  ∃ lengthOk act, (∀ s, exec i s = .next (carryOut type lengthOk act s)) ∧ ∀ n, n ∉ lengths → lengthOk n = false

theorem CarriesOut.fixed {type : Byte} {i : Instr} {n : Nat} (act : List Byte → State → State × Reply)
    (h : ∀ s, exec i s = .next (carryOut type (fixedLength n) act s)) : CarriesOut type i [n] :=
  ⟨fixedLength n, act, h, fun _ other => beq_false_of_ne fun e => other (List.mem_singleton.mpr e)⟩

theorem injectLength_eq_false {n : Nat} (h : n ∉ (List.range 595).map (· + 4)) : injectLength n = false := by
  simp only [List.mem_map, List.mem_range, not_exists, not_and] at h
  simp only [injectLength, Bool.and_eq_false_iff, decide_eq_false_iff_not]
  have := h (n - 4)
  omega

/-- INJECT alone allows a range of lengths, 4 to 598 (R182). -/
theorem CarriesOut.inject : CarriesOut 0x07#8 .inject ((List.range 595).map (· + 4)) :=
  ⟨injectLength, injectAct, fun _ => rfl, fun _ => injectLength_eq_false⟩

theorem commandTable_carriesOut : ∀ x ∈ commandTable, CarriesOut x.1 x.2.1 x.2.2 := by
  simp only [commandTable, List.forall_mem_cons]
  exact ⟨.fixed enrolAct fun _ => rfl, .fixed amendAct fun _ => rfl, .fixed retireAct fun _ => rfl,
    .fixed barAct fun _ => rfl, .fixed unbarAct fun _ => rfl, .fixed queryAct fun _ => rfl,
    CarriesOut.inject, .fixed profileSetAct fun _ => rfl,
    .fixed profileGetAct fun _ => rfl, .fixed listAct fun _ => rfl, .fixed clearAlarmsAct fun _ => rfl,
    .fixed strangersAct fun _ => rfl, .fixed dismissAct fun _ => rfl, .fixed channelSetAct fun _ => rfl,
    .fixed creditAct fun _ => rfl, .fixed sweepAct fun _ => rfl, .fixed sweepAbortAct fun _ => rfl,
    .fixed setTimeAct fun _ => rfl, .fixed statusAct fun _ => rfl, .fixed configAct fun _ => rfl,
    .fixed countersAct fun _ => rfl, .fixed restartAct fun _ => rfl, List.forall_mem_nil _⟩

theorem exec_restartPending {s : State} (h : s.link.restartPending = true) {i : Instr}
    (hi : i ∈ commandTable.map (fun x => x.2.1) ++ [.unknownCommand]) : exec i s = .next s := by
  obtain row | unknown := List.mem_append.mp hi
  · obtain ⟨x, hx, rfl⟩ := List.mem_map.mp row
    obtain ⟨lengthOk, act, runs, -⟩ := commandTable_carriesOut x hx
    rw [runs, carryOut_restartPending h]
  · rw [List.mem_singleton.mp unknown]
    exact congrArg Host.Outcome.next (refuseUnknown_restartPending h)

theorem exec_badLength {s : State} {body : List Byte} {x : Byte × Instr × List Nat} (hx : x ∈ commandTable)
    (h : Executing s x.1 body) (other : body.length ∉ x.2.2) : exec x.2.1 s = .next (s.answerHeld .badLength) := by
  obtain ⟨lengthOk, act, runs, refuses⟩ := commandTable_carriesOut x hx
  rw [runs, carryOut_badLength act h (refuses _ other)]

/-- Settles O52: the held entry found behind entries that are not held; the 22 commands by their table. -/
theorem oldestHeldAnswered : Obligations.OldestHeldAnswered := by
  refine ⟨fun s before after e r queue held others => ?_, fun s type body hx unknown => ?_, fun s hx => ?_,
    fun s pending i hi => exec_restartPending pending hi, fun s body x hx => exec_badLength hx⟩
  · rw [State.answerHeld, queue, answerFirst_append r held others]
  · exact congrArg Host.Outcome.next (refuseUnknown_executing hx (isCommandType_eq_false unknown))
  · exact congrArg Host.Outcome.next (carryOut_acts hx rfl)

/-! ## COUNTERS -/

theorem countersAct_range {s : State} {body : List Byte} (h : 2 ≤ byteAt body 0) :
    countersAct body s = (s, .refused .range) := by
  rw [countersAct, readYesNo_eq_none h]

theorem countersAct_reads {s : State} {body : List Byte} (h : byteAt body 0 = 0) :
    countersAct body s = (s, .counters s.counterValues) := by
  rw [countersAct, h]
  rfl

theorem countersAct_clears {s : State} {body : List Byte} (h : byteAt body 0 = 1) :
    countersAct body s = (clearCounters s, .counters s.counterValues) := by
  rw [countersAct, h]
  rfl

/-- Settles O51: the flag read back as refused, NO or YES. -/
theorem countersReadAndCleared : Obligations.CountersReadAndCleared := by
  intro s flag reply hf hx
  have given : byteAt (countersBody flag) 0 = flag := byteOf_toNat_of_lt hf
  refine ⟨fun outside => ?_, fun values => ?_⟩
  · exact congrArg Host.Outcome.next (carryOut_answers hx rfl (countersAct_range (by omega)))
  · subst values
    refine ⟨fun no => ?_, fun yes => ?_⟩
    · exact congrArg Host.Outcome.next (carryOut_answers hx rfl (countersAct_reads (given.trans no)))
    · refine congrArg Host.Outcome.next ((carryOut_acts hx rfl).trans ?_)
      rw [countersAct_clears (given.trans yes)]
      rfl

end Sys2Proof.Machine
end

section
/-! PROOFS. The queue of rows waiting to be taken (95_what_each_step_holds.md): a step takes its front, and no row
touches it. -/

namespace Sys2Proof.Machine

/-- Settles O1: the step's second case. -/
theorem stepTakesFrontCommand : Obligations.StepTakesFrontCommand := by
  intro c rest s front
  simp only [step, front]

/-! ## The waiting rows under the shared operations -/

theorem ite_pending {s t : State} {due : Prop} [Decidable due] (h : t.pending = s.pending) :
    (if due then t else s).pending = s.pending := by
  rw [apply_ite State.pending, h, ite_self]

@[simp] theorem queueCopy_pending (o : Offer) (c : Fin 8) (s : State) : (queueCopy o c s).pending = s.pending :=
  (offersOnly_queueCopy o c s).pending

@[simp] theorem flush_pending (c : Fin 8) (s : State) : (flush c s).pending = s.pending := (offersOnly_flush c s).pending

@[simp] theorem settle_pending (s : State) (o : Offer) : (settle s o).pending = s.pending := (settle_spec s o).1.pending

@[simp] theorem settleAll_pending (offers : List Offer) (s : State) : (settleAll offers s).pending = s.pending :=
  (settleAll_spec offers s).1.pending

@[simp] theorem replaceRecord_pending (slot : Nat) (out : BinRecord × List Raised) (s : State) :
    (replaceRecord slot out s).pending = s.pending := settleAll_pending _ _

theorem putMoves_pending (moves : List Move) (s : State) :
    (moves.foldl (fun t m => t.putBin m.1 m.2.1) s).pending = s.pending := by
  induction moves generalizing s with
  | nil => rfl
  | cons m moves ih => exact ih _

theorem applyMoves_pending (time : Nat) (moves : List Move) (s : State) :
    (applyMoves time moves s).pending = s.pending :=
  (settleAll_pending _ _).trans (putMoves_pending moves s)

@[simp] theorem makeAnswer_pending (source : Source) (r : BinRecord) (seq : BitVec 4) (v : Verdict) (s : State) :
    (makeAnswer source r seq v s).pending = s.pending := by
  obtain ⟨a, k, e⟩ := makeAnswer_frame source r seq v s
  rw [e, State.setIntake_pending]

@[simp] theorem judgeSweepEnd_pending (s : State) : (judgeSweepEnd s).pending = s.pending := by
  obtain ⟨-, e⟩ | ⟨-, e⟩ := judgeSweepEnd_cases s
  · rw [e, State.setSweep_pending, queueCopy_pending]
  · rw [e]

@[simp] theorem enterClosing_pending (why : PendingEnd) (s : State) : (enterClosing why s).pending = s.pending :=
  judgeSweepEnd_pending _

@[simp] theorem notifySweep_pending (s : State) : (notifySweep s).pending = s.pending := by
  unfold notifySweep
  split
  all_goals simp

/-! ## Captures and reception -/

theorem admitCapture_pending (cap : Capture) (g : GoodFrame) (gap slot : Nat) (r : BinRecord) (s : State) :
    (admitCapture cap g gap slot r s).1.pending = s.pending := by
  unfold admitCapture
  repeat' split
  all_goals simp [takeHeld, takeAccepted, takeOverrun]

theorem classify_pending (cap : Capture) (g : GoodFrame) (slot : Nat) (r : BinRecord) (s : State) :
    (classify cap g slot r s).1.pending = s.pending := by
  unfold classify
  repeat' split
  all_goals simp [takeRefused, takeDuplicate, takeStale, admitCapture_pending]

theorem hearStranger_pending (h : Hearing) (s : State) : (hearStranger h s).pending = s.pending := by
  unfold hearStranger
  repeat' split
  all_goals simp [appendStranger]

theorem takeCapture_pending (cap : Capture) (s : State) : (takeCapture cap s).1.pending = s.pending := by
  unfold takeCapture
  repeat' split
  all_goals simp [takeMalformed, takeStranger, hearStranger_pending, classify_pending]

theorem fieldFound_pending (f : Finding) (s : State) : (fieldFound f s).pending = s.pending := by
  cases f with
  | collecting held => rfl
  | arrived type tag body rest =>
    simp only [fieldFound, fieldArrival]
    split
    · exact takeCapture_pending _ _
    · rfl
  | bad rest => rfl
  | overlong rest => rfl

theorem plannerFound_pending (f : Finding) (s : State) : (plannerFound f s).pending = s.pending := by
  cases f with
  | collecting held => rfl
  | arrived type tag body rest =>
    simp only [plannerFound, commandArrives]
    split
    · rfl
    · rfl
  | bad rest => rfl
  | overlong rest => rfl

theorem receive_pending (l : Link) (bytes : List Byte) (s : State) : (receive l bytes s).pending = s.pending := by
  unfold receive
  split
  · rfl
  · cases l with
    | planner => exact plannerFound_pending _ s
    | field => exact fieldFound_pending _ s

/-! ## Executions of held commands -/

/-- An execution leaves the waiting rows when the block's act does (R166). -/
theorem carryOut_pending (type : Byte) (lengthOk : Nat → Bool) {act : List Byte → State → State × Reply} {s : State}
    (h : ∀ body, (act body s).1.pending = s.pending) : (carryOut type lengthOk act s).pending = s.pending := by
  obtain e | e | ⟨body, -, -, e⟩ := carryOut_cases type lengthOk act s
  · rw [e]
  · rw [e, State.answerHeld_pending]
  · rw [e, State.answerHeld_pending, h body]

theorem onRecord_pending (body : List Byte) {s : State} {act : Nat → BinRecord → State × Reply}
    (h : ∀ slot r, (act slot r).1.pending = s.pending) : (onRecord body s act).1.pending = s.pending := by
  obtain ⟨st, e⟩ | ⟨slot, r, -, e⟩ := onRecord_cases body s act
  · rw [e]
  · rw [e]; exact h slot r

theorem enrolAct_pending (body : List Byte) (s : State) : (enrolAct body s).1.pending = s.pending := by
  rw [enrolAct]
  repeat' split
  all_goals rfl

theorem amendAct_pending (body : List Byte) (s : State) : (amendAct body s).1.pending = s.pending :=
  onRecord_pending body fun slot r => by
    simp only
    split
    · exact replaceRecord_pending slot _ s
    · rfl

theorem barAct_pending (body : List Byte) (s : State) : (barAct body s).1.pending = s.pending :=
  onRecord_pending body fun slot r => by
    split
    · rfl
    · rfl

theorem unbarAct_pending (body : List Byte) (s : State) : (unbarAct body s).1.pending = s.pending :=
  onRecord_pending body fun slot r => by
    split
    · exact replaceRecord_pending slot _ s
    · rfl

theorem profileSetAct_pending (body : List Byte) (s : State) : (profileSetAct body s).1.pending = s.pending := by
  simp only [profileSetAct, storeProfile]
  repeat' split
  all_goals rfl

theorem profileGetAct_pending (body : List Byte) (s : State) : (profileGetAct body s).1.pending = s.pending := by
  unfold profileGetAct
  split
  all_goals rfl

theorem listAct_pending (body : List Byte) (s : State) : (listAct body s).1.pending = s.pending := by
  rw [listAct]
  split
  all_goals rfl

theorem clearAlarmsAct_pending (body : List Byte) (s : State) : (clearAlarmsAct body s).1.pending = s.pending := by
  rw [clearAlarmsAct]
  repeat' split
  all_goals rfl

theorem dismissAct_pending (body : List Byte) (s : State) : (dismissAct body s).1.pending = s.pending := by
  rw [dismissAct]
  repeat' split
  all_goals rfl

theorem configAct_pending (body : List Byte) (s : State) : (configAct body s).1.pending = s.pending := by
  rw [configAct]
  split
  all_goals rfl

theorem countersAct_pending (body : List Byte) (s : State) : (countersAct body s).1.pending = s.pending := by
  simp only [countersAct]
  repeat' split
  all_goals rfl

theorem refuseUnknown_pending (s : State) : (refuseUnknown s).pending = s.pending := by
  unfold refuseUnknown
  repeat' split
  all_goals rfl

/-! ## The channels and the sweep -/

theorem disableChannel_pending (c : Fin 8) (s : State) : (disableChannel c s).pending = s.pending := by
  unfold disableChannel
  simp only
  split
  · exact flush_pending c s
  · exact (notifySweep_pending _).trans (flush_pending c s)

theorem setChannel_pending (c : Fin 8) (x : ChannelConfig) (s : State) : (setChannel c x s).pending = s.pending := by
  unfold setChannel
  simp only
  split
  · exact disableChannel_pending _ _
  · rfl

theorem channelSetAct_pending (body : List Byte) (s : State) : (channelSetAct body s).1.pending = s.pending := by
  unfold channelSetAct
  repeat' split
  all_goals simp [setChannel_pending]

theorem creditAct_pending (body : List Byte) (s : State) : (creditAct body s).1.pending = s.pending := by
  unfold creditAct
  split
  all_goals rfl

theorem sweepAct_pending (body : List Byte) (s : State) : (sweepAct body s).1.pending = s.pending := by
  unfold sweepAct
  repeat' split
  all_goals rfl

theorem sweepAbortAct_pending (body : List Byte) (s : State) : (sweepAbortAct body s).1.pending = s.pending := by
  unfold sweepAbortAct
  split
  all_goals simp

theorem passSlot_pending (s : State) : (passSlot s).pending = s.pending := by
  unfold passSlot
  simp only
  split
  · exact enterClosing_pending _ _
  · rfl

theorem visit_pending (s : State) : (visit s).pending = s.pending := by
  unfold visit
  repeat' split
  all_goals simp [passSlot_pending]

/-! ## Estimations, begins and completions -/

theorem estimation_pending (s : State) : (estimation s).pending = s.pending := by
  unfold estimation
  simp only
  repeat' split
  all_goals simp

theorem beginParty_pending (s : State) : (beginParty s).pending = s.pending := by
  unfold beginParty beginChosen
  repeat' split
  all_goals rfl

/-- A completion leaves the waiting rows, even that of a RESTART's reply: the engine reset does (log entry 18). -/
theorem completion_pending (s : State) : (completion s).pending = s.pending := by
  unfold completion
  split
  next => rfl
  next p _ _ =>
    cases p with
    | startNotice => rfl
    | reply =>
      simp only [completeParty, completeReply]
      split
      · rfl
      · rfl
    | channel c => exact notifySweep_pending _

theorem answerBegin_pending (s : State) : (answerBegin s).pending = s.pending := by
  unfold answerBegin
  split
  all_goals rfl

/-! ## Every row -/

/-- Settles O3: row by row, the meaning is a next state, and what it is made of leaves the waiting rows. -/
theorem everyCommandAnswersNext : Obligations.EveryCommandAnswersNext := by
  intro c s
  cases c with
  | capture bytes => exact ⟨_, rfl, receive_pending .field bytes s⟩
  | unknownType bytes => exact ⟨_, rfl, receive_pending .field bytes s⟩
  | framesBad l bytes => exact ⟨_, rfl, receive_pending l bytes s⟩
  | framesOverlong l bytes => exact ⟨_, rfl, receive_pending l bytes s⟩
  | commandArrival bytes => exact ⟨_, rfl, receive_pending .planner bytes s⟩
  | enrol => exact ⟨_, rfl, carryOut_pending _ _ fun body => enrolAct_pending body s⟩
  | amend => exact ⟨_, rfl, carryOut_pending _ _ fun body => amendAct_pending body s⟩
  | retire => exact ⟨_, rfl, carryOut_pending _ _ fun body => onRecord_pending body fun _ _ => rfl⟩
  | bar => exact ⟨_, rfl, carryOut_pending _ _ fun body => barAct_pending body s⟩
  | unbar => exact ⟨_, rfl, carryOut_pending _ _ fun body => unbarAct_pending body s⟩
  | query => exact ⟨_, rfl, carryOut_pending _ _ fun body => onRecord_pending body fun _ _ => rfl⟩
  | inject => exact ⟨_, rfl, carryOut_pending _ _ fun _ => takeCapture_pending _ _⟩
  | profileSet => exact ⟨_, rfl, carryOut_pending _ _ fun body => profileSetAct_pending body s⟩
  | profileGet => exact ⟨_, rfl, carryOut_pending _ _ fun body => profileGetAct_pending body s⟩
  | list => exact ⟨_, rfl, carryOut_pending _ _ fun body => listAct_pending body s⟩
  | clearAlarms => exact ⟨_, rfl, carryOut_pending _ _ fun body => clearAlarmsAct_pending body s⟩
  | strangers => exact ⟨_, rfl, carryOut_pending _ _ fun _ => rfl⟩
  | dismiss => exact ⟨_, rfl, carryOut_pending _ _ fun body => dismissAct_pending body s⟩
  | channelSet => exact ⟨_, rfl, carryOut_pending _ _ fun body => channelSetAct_pending body s⟩
  | credit => exact ⟨_, rfl, carryOut_pending _ _ fun body => creditAct_pending body s⟩
  | sweep => exact ⟨_, rfl, carryOut_pending _ _ fun body => sweepAct_pending body s⟩
  | sweepAbort => exact ⟨_, rfl, carryOut_pending _ _ fun body => sweepAbortAct_pending body s⟩
  | setTime => exact ⟨_, rfl, carryOut_pending _ _ fun _ => rfl⟩
  | status => exact ⟨_, rfl, carryOut_pending _ _ fun _ => rfl⟩
  | config => exact ⟨_, rfl, carryOut_pending _ _ fun body => configAct_pending body s⟩
  | counters => exact ⟨_, rfl, carryOut_pending _ _ fun body => countersAct_pending body s⟩
  | restart => exact ⟨_, rfl, carryOut_pending _ _ fun _ => rfl⟩
  | unknownCommand => exact ⟨_, rfl, refuseUnknown_pending s⟩
  | estimation => exact ⟨_, rfl, estimation_pending s⟩
  | secondsEvent => exact ⟨_, rfl, rfl⟩
  | secondsWalk => exact ⟨_, rfl, ite_pending (applyMoves_pending _ _ _)⟩
  | silenceCheck => exact ⟨_, rfl, ite_pending (applyMoves_pending _ _ _)⟩
  | strangerAging => exact ⟨_, rfl, ite_pending rfl⟩
  | transmissionBegin => exact ⟨_, rfl, ite_pending (beginParty_pending s)⟩
  | transmissionCompletion => exact ⟨_, rfl, completion_pending s⟩
  | answerTransmissionBegin => exact ⟨_, rfl, answerBegin_pending s⟩
  | answerTransmissionCompletion => exact ⟨_, rfl, rfl⟩
  | sweepVisit => exact ⟨_, rfl, ite_pending (visit_pending s)⟩
  | sweepEndPlacement => exact ⟨_, rfl, ite_pending (judgeSweepEnd_pending s)⟩
  | resetNAssertion => exact ⟨_, rfl, rfl⟩
  | resetNRelease => exact ⟨_, rfl, rfl⟩
  | powerOnReset => exact ⟨_, rfl, rfl⟩

end Sys2Proof.Machine
end
